-- ==== Sys2Proof/Word.lean ====
section
/-! DEFINITION. The word types of the profile playback engine (10_state.md rule R10, 30_encoding.md rules R61 to
R64): every quantity of the block is unsigned, bit 0 the least significant (00_scope.md rule R7). -/

namespace Sys2Proof

/-- The value of `state` and of `ret_state`: 3 bits (10_state.md rules R11, R15). -/
abbrev StateCode := BitVec 3

/-- The tick counter: 7 bits, so that 64 is representable (10_state.md rule R12). -/
abbrev TickCount := BitVec 7

/-- The profile index: 3 bits, all eight values legal (10_state.md rule R13). -/
abbrev ProfileIndex := BitVec 3

/-- The tick number inside a profile, as the ROM takes it: 6 bits (30_encoding.md rule R64). -/
abbrev TickIndex := BitVec 6

/-- One profile: 64 bits, bit 0 the first tick (20_memory.md rule R41). -/
abbrev ProfileWord := BitVec 64

/-- A byte of the ROM's byte view (20_memory.md rule R43). -/
abbrev Byte := BitVec 8

/-- Format S, the sequencer's decode word: `dly` above `state` (30_encoding.md rule R61). -/
abbrev DecodeWord := BitVec 4

/-- Format I, the interrupt request vector: a set of services (30_encoding.md rule R62). -/
abbrev IrqVector := BitVec 3

/-- Format V, the event code of a stimulus trace (30_encoding.md rule R63). -/
abbrev EventCode := BitVec 3

/-- Format A, the ROM address: the profile number above the tick number (30_encoding.md rule R64). -/
abbrev RomAddress := BitVec 9

/-- A word together with its format. The four formats overlap as numbers, so a word says which operation it
selects only once its format is known (30_encoding.md rules R60 to R64). -/
inductive Coded where
  /-- Format S: formed from `dly` and `state` by the sequencer. -/
  | formatS (w : DecodeWord)
  /-- Format I: the pending-and-enabled vector `irq`. -/
  | formatI (v : IrqVector)
  /-- Format V: an event code of a stimulus trace. -/
  | formatV (c : EventCode)
  /-- Format A: a ROM address. -/
  | formatA (a : RomAddress)
  deriving DecidableEq, Repr

end Sys2Proof
end

