-- ==== Sys2Proof/Config.lean ====
section
/-! DEFINITION. What is fixed for one device and what the spec leaves free (00_scope.md rule R6). The free values
have no body: nothing can be proved of them, so every theorem holds whatever they are. -/

namespace Sys2Proof.Config

/-- The number of ticks of a profile (00_scope.md rule R6). -/
def maxTicks : Nat := 64

/-- The number of profiles (00_scope.md rule R6). -/
def numProfiles : Nat := 8

/-- The two build-time options of a device (00_scope.md rule R6): arguments of the step relation, which State
holds and no operation writes. -/
structure Params where
  /-- `HAS_BLINK`: the blink timer and the LightSleep state exist (00_scope.md rule R2). -/
  hasBlink : Bool
  /-- `DELAY_LED`: the indicator's level during the settling delay (00_scope.md rule R6). -/
  delayLed : Bool
  deriving DecidableEq, Repr, Inhabited

/-- The options of the device that State.reset describes. UNCONSTRAINED (notes/assumptions/1.md). -/
opaque params : Params

/-- `PROFILE`: the contents of the profile ROM, an arbitrary function of the profile number (20_memory.md rule
R53). UNCONSTRAINED (notes/assumptions/2.md). -/
opaque profile : ProfileIndex → ProfileWord

/-- `LED_PLAY`: the indicator as the n-th observation sees it while the spec leaves it unspecified (10_state.md
rule R20). UNCONSTRAINED (notes/assumptions/7.md). -/
opaque ledPlay : Nat → Bool

/-- `tick` as the n-th draw of a reset leaves it (10_state.md rule R28). UNCONSTRAINED (notes/assumptions/6.md). -/
opaque resetTick : Nat → TickCount

/-- `wake_if` as the n-th draw of a reset leaves it (10_state.md rule R28). UNCONSTRAINED (log 6). -/
opaque resetWakeIf : Nat → Bool

/-- `tick_if` as the n-th draw of a reset leaves it (10_state.md rule R28). UNCONSTRAINED (log 6). -/
opaque resetTickIf : Nat → Bool

/-- `blink_if` as the n-th draw of a reset leaves it (10_state.md rule R28). UNCONSTRAINED (log 6). -/
opaque resetBlinkIf : Nat → Bool

/-- `tick_run` as the n-th draw of a reset leaves it (10_state.md rule R28). UNCONSTRAINED (log 6). -/
opaque resetTickRun : Nat → Bool

/-- `blink_run` as the n-th draw of a reset leaves it (10_state.md rule R28). UNCONSTRAINED (log 6). -/
opaque resetBlinkRun : Nat → Bool

end Sys2Proof.Config
end

