-- ==== Sys2Proof/Machine/State.lean ====
section
/-! DEFINITION. The machine state (10_state.md rule R26), the reasons a step can stop, and the state after reset
(10_state.md rule R28). -/

namespace Sys2Proof.Machine

/-- Whether the sequencer is suspended, and which interrupt ends the suspension (10_state.md rule R24). -/
inductive Wait where
  /-- `NONE`: the sequencer is running. -/
  | none
  /-- `WAKE`: deep sleep, ended by IRQ_WAKE. -/
  | wake
  /-- `TICK`: light sleep of playback, ended by IRQ_TICK. -/
  | tick
  /-- `BLINK`: light sleep of LightSleep, ended by IRQ_BLINK. -/
  | blink
  /-- `DELAY`: light sleep of the settling delay, ended by EV_DLY_DONE. -/
  | delay
  deriving DecidableEq, Repr

/-- The register bit `led` (10_state.md rule R20): a level, or unspecified, as it is from WAKEUP to the next GOTOSLEEP
(notes/assumptions/7.md). -/
inductive Indicator where
  | level (on : Bool)
  | unspecified
  deriving DecidableEq, Repr

/-- One entry of the environment's stimulus (30_encoding.md rule R70, 70_reset_and_hazards.md rules R180, R181;
notes/assumptions/3.md). -/
inductive Turn where
  /-- The event occurs now, between any two operations. -/
  | event (c : EventCode)
  /-- The event occurs once the machine is at rest, as in a stimulus trace; until then the block moves. -/
  | eventAtRest (c : EventCode)
  /-- The block takes one move before the next entry. -/
  | block
  deriving DecidableEq, Repr

/-- The profile ROM in the byte view of 20_memory.md rule R43: byte `8p + b` holds ticks `8b` to `8b + 7` of profile `p`.
The list is in canonical form (`Memory.wf`); an unlisted byte reads as that byte of `Config.profile`
(notes/assumptions/2.md). -/
abbrev Memory := List Host.Cell

/-- The machine state: the 16 variables of 10_state.md rule R26, the strobe of rule R30, the ROM, and the model's own
`params`, `lookup`, `stimulus` and `draws`. The three blink bits are read and written through operations that
hard-wire them to 0 when HAS_BLINK = 0. -/
structure State where
  /-- `state` (rule R11). -/
  state : StateCode
  /-- `tick` (rule R12). -/
  tick : TickCount
  /-- `profile_i` (rule R13). -/
  profileI : ProfileIndex
  /-- `ret_state` (rule R15). -/
  retState : StateCode
  /-- `wake_ie`, IE bit 0 (rule R16). -/
  wakeIe : Bool
  /-- `tick_ie`, IE bit 1 (rule R16). -/
  tickIe : Bool
  /-- `blink_ie`, IE bit 2 (rule R16). -/
  blinkIe : Bool
  /-- `wake_if`, IF bit 0 (rule R17). -/
  wakeIf : Bool
  /-- `tick_if`, IF bit 1 (rule R17). -/
  tickIf : Bool
  /-- `blink_if`, IF bit 2 (rule R17). -/
  blinkIf : Bool
  /-- `tick_run`, TMR bit 0 (rule R19). -/
  tickRun : Bool
  /-- `blink_run`, TMR bit 1 (rule R19). -/
  blinkRun : Bool
  /-- `dly`, TMR bit 2 (rules R19, R25). -/
  dly : Bool
  /-- `motor_on`, OUT bit 0 (rule R20). -/
  motorOn : Bool
  /-- `led`, OUT bit 1 (rule R20). -/
  led : Indicator
  /-- `wait` (rule R24). -/
  wait : Wait
  /-- The strobe `tick_clr`, asserted by the transition just taken (rules R19, R30). -/
  tickClr : Bool
  /-- The ROM access of the transition just taken: its address and the bit it returned (the model's own field,
  notes/assumptions/9.md). -/
  lookup : Option (RomAddress × Bool)
  /-- The profile ROM (20_memory.md rule R40). -/
  mem : Memory
  /-- HAS_BLINK and DELAY_LED (00_scope.md rule R6; notes/assumptions/1.md). -/
  params : Config.Params
  /-- The environment's moves still to come (notes/assumptions/3.md). -/
  stimulus : List Turn
  /-- How many draws of free values lie behind (the model's own counter, notes/assumptions/5.md). -/
  draws : Nat
  deriving DecidableEq, Repr

/-- Why the machine stops with a fault: never. The block raises no exception and no condition halts it (60_exceptions.md
rules R140 to R142), so there is no constructor and nobody raises one (safe). -/
inductive Fault where
  deriving DecidableEq, Repr

/-- Why an operation has no meaning. -/
inductive Refusal where
  /-- Raised by an arm of `exec` whose operation has no meaning yet; no arm is left so. Safe: it stops. -/
  | notModelled (mnemonic : String)
  /-- Raised by the meanings of LIGHTSLEEP, IRQ_BLINK and EV_BLINK_OVF where HAS_BLINK = 0: the operation does not exist
  there (30_encoding.md rule R60). `step` never gets here, since its decoder never selects them then. Safe: it stops. -/
  | absentWithoutBlink (mnemonic : String)
  /-- Raised by `step` when the event due has an unassigned code, and by `respond` (Machine/Response.lean) for a trace that
  holds one: the stimulus trace is malformed and a model refuses it (30_encoding.md rule R67 (c),
  93_implementation_defined.md U8). Safe: it stops. -/
  | malformedStimulus (c : EventCode)
  deriving DecidableEq, Repr

/-- The machine right after power-on (10_state.md rule R28). Where the table says unspecified the value is the first draw
of the free values, of which nothing can be proved (notes/assumptions/6.md). -/
def State.reset : State where
  state := 0#3
  tick := Config.resetTick 0
  profileI := 0#3
  retState := 0#3
  wakeIe := false
  tickIe := false
  blinkIe := false
  wakeIf := Config.resetWakeIf 0
  tickIf := Config.resetTickIf 0
  blinkIf := Config.params.hasBlink && Config.resetBlinkIf 0
  tickRun := Config.resetTickRun 0
  blinkRun := Config.params.hasBlink && Config.resetBlinkRun 0
  dly := false
  motorOn := false
  led := .level false
  wait := .none
  tickClr := false
  lookup := .none
  mem := []
  params := Config.params
  stimulus := []
  draws := 0

end Sys2Proof.Machine
end

