-- ==== Sys2Proof/Machine/Ops.lean ====
section
/-! DEFINITION. The named operations over the registers and the ROM, and the shared operation of interrupt entry and
return. A variable an operation does not mention is unchanged (00_scope.md rule R8). -/

namespace Sys2Proof.Machine

/-! ## Registers -/

/-- `state <- v` (10_state.md rule R11). -/
def State.setState (s : State) (v : StateCode) : State := { s with state := v }

/-- `tick <- v` (10_state.md rule R12). -/
def State.setTick (s : State) (v : TickCount) : State := { s with tick := v }

/-- `profile_i <- v` (10_state.md rule R13). -/
def State.setProfileI (s : State) (v : ProfileIndex) : State := { s with profileI := v }

/-- `ret_state <- v` (10_state.md rule R15). -/
def State.setRetState (s : State) (v : StateCode) : State := { s with retState := v }

/-- `wake_ie <- b` (10_state.md rule R16). -/
def State.setWakeIe (s : State) (b : Bool) : State := { s with wakeIe := b }

/-- `tick_ie <- b` (10_state.md rule R16). -/
def State.setTickIe (s : State) (b : Bool) : State := { s with tickIe := b }

/-- `blink_ie <- b`, hard-wired 0 when HAS_BLINK = 0 (10_state.md rule R16). -/
def State.setBlinkIe (s : State) (b : Bool) : State := { s with blinkIe := b && s.params.hasBlink }

/-- `wake_if <- b` (10_state.md rule R17). -/
def State.setWakeIf (s : State) (b : Bool) : State := { s with wakeIf := b }

/-- `tick_if <- b` (10_state.md rule R17). -/
def State.setTickIf (s : State) (b : Bool) : State := { s with tickIf := b }

/-- `blink_if <- b`, hard-wired 0 when HAS_BLINK = 0 (10_state.md rule R17). -/
def State.setBlinkIf (s : State) (b : Bool) : State := { s with blinkIf := b && s.params.hasBlink }

/-- `tick_run <- b` (10_state.md rule R19). -/
def State.setTickRun (s : State) (b : Bool) : State := { s with tickRun := b }

/-- `blink_run <- b`, hard-wired 0 when HAS_BLINK = 0 (10_state.md rule R19). -/
def State.setBlinkRun (s : State) (b : Bool) : State := { s with blinkRun := b && s.params.hasBlink }

/-- `dly <- b` (10_state.md rule R19). -/
def State.setDly (s : State) (b : Bool) : State := { s with dly := b }

/-- `motor_on <- b` (10_state.md rule R20). -/
def State.setMotorOn (s : State) (b : Bool) : State := { s with motorOn := b }

/-- `led <- v`, a level or the draw LED_PLAY (10_state.md rule R20). -/
def State.setLed (s : State) (v : Indicator) : State := { s with led := v }

/-- `wait <- w` (10_state.md rule R24). -/
def State.setWait (s : State) (w : Wait) : State := { s with wait := w }

/-- `assert tick_clr` (10_state.md rule R19). -/
def State.assertTickClr (s : State) : State := { s with tickClr := true }

/-- The ROM port of this transition: the address formed and the bit returned (notes/assumptions/9.md). -/
def State.setLookup (s : State) (a : RomAddress) (b : Bool) : State := { s with lookup := some (a, b) }

/-- A further draw of free values lies behind (notes/assumptions/5.md). -/
def State.advanceDraws (s : State) : State := { s with draws := s.draws + 1 }

/-- The start of one transition, with `rest` as the stimulus that remains: the strobe and the ROM port of the transition
before are over, and the free values move on (10_state.md rule R19; notes/assumptions/5.md, 8.md, 9.md). -/
def State.enter (s : State) (rest : List Turn) : State :=
  { s with tickClr := false, lookup := none, stimulus := rest, draws := s.draws + 1 }

/-! ## Interrupt entry and return

A dispatch saves nothing and changes no mode (60_exceptions.md rule R146). The services of one dispatch pass on the
state and the local `resume` of 40_dispatcher.md rule R87. -/

/-- Entry: no service has asked to resume yet (40_dispatcher.md rule R87). -/
def beginService (s : State) : State × Bool := (s, false)

/-- A source requests the state `target`; it resumes the sequencer only if it is the designated source of the current
suspension, `wait = own` (10_state.md rule R24, 40_dispatcher.md rules R84 to R86). -/
def requestState (target : StateCode) (own : Wait) (r : State × Bool) : State × Bool :=
  (r.1.setState target, r.2 || decide (r.1.wait = own))

/-- Return: the end of the dispatch ends the suspension if some service asked for it (40_dispatcher.md rule R87,
60_exceptions.md rule R147). -/
def endService (r : State × Bool) : State := if r.2 then r.1.setWait .none else r.1

/-! ## The profile ROM -/

/-- What an unlisted byte of the ROM reads as: that byte of the parameter PROFILE, little-endian (20_memory.md rules R43,
R53; notes/assumptions/2.md). -/
def romDefault (a : Nat) : Byte := (Config.profile (BitVec.ofNat 3 (a / 8))).extractLsb' (8 * (a % 8)) 8

/-- One byte of the ROM in the byte view (20_memory.md rule R43). -/
def Memory.read : Memory → Nat → Byte
  | [], a => romDefault a
  | (k, v) :: m, a => if k = a then v else Memory.read m a

/-- Put a byte into the ROM, keeping the canonical form. No operation of the block does this (20_memory.md rule R40): it is
how contents are given to a device before it runs (20_memory.md rule R53). -/
def Memory.place : Memory → Nat → Byte → Memory
  | [], a, v => if v = romDefault a then [] else [(a, v)]
  | (k, u) :: m, a, v =>
    if a < k then (if v = romDefault a then (k, u) :: m else (a, v) :: (k, u) :: m)
    else if a = k then (if v = romDefault a then m else (a, v) :: m)
    else (k, u) :: Memory.place m a v

/-- Every listed address lies above `low`, is a byte of the ROM, and rises strictly; no entry equals what the address
reads as unlisted. -/
def Memory.wfFrom (low : Nat) : Memory → Bool
  | [] => true
  | (k, v) :: m => decide (low ≤ k) && decide (k < 64) && decide (v ≠ romDefault k) && Memory.wfFrom (k + 1) m

/-- The canonical form of the ROM's list. -/
def Memory.wf (m : Memory) : Bool := Memory.wfFrom 0 m

/-- Byte `b` of profile `p` (20_memory.md rule R43). -/
def Memory.profileByte (m : Memory) (p : ProfileIndex) (b : Nat) : Byte := m.read (8 * p.toNat + b)

/-- The 64-bit word of profile `p`, from its eight bytes, byte 0 lowest (20_memory.md rules R41, R43). -/
def Memory.profile (m : Memory) (p : ProfileIndex) : ProfileWord :=
  m.profileByte p 7 ++ m.profileByte p 6 ++ m.profileByte p 5 ++ m.profileByte p 4 ++
    m.profileByte p 3 ++ m.profileByte p 2 ++ m.profileByte p 1 ++ m.profileByte p 0

/-- `RomRead(p, t) = PROFILE(p)[t]`: a pure function of the ROM and its address (20_memory.md rule R42). -/
def romRead (m : Memory) (p : ProfileIndex) (t : TickIndex) : Bool := (m.profile p).getLsbD t.toNat

end Sys2Proof.Machine
end

