-- ==== Sys2Proof/Machine/Flags.lean ====
section
/-! DEFINITION. The flags and what is computed from them: the hard-wired reads, the request vector, the registers as words,
and the derived outputs (10_state.md rules R16 to R21, R30). -/

namespace Sys2Proof.Machine

/-- `blink_ie` as it reads: 0 when HAS_BLINK = 0 (10_state.md rule R16). -/
def State.readBlinkIe (s : State) : Bool := s.blinkIe && s.params.hasBlink

/-- `blink_if` as it reads: 0 when HAS_BLINK = 0 (10_state.md rule R17). -/
def State.readBlinkIf (s : State) : Bool := s.blinkIf && s.params.hasBlink

/-- `blink_run` as it reads: 0 when HAS_BLINK = 0 (10_state.md rule R19). -/
def State.readBlinkRun (s : State) : Bool := s.blinkRun && s.params.hasBlink

/-- `irq[0] = wake_if AND wake_ie` (10_state.md rule R18). -/
def State.wakeRequest (s : State) : Bool := s.wakeIe && s.wakeIf

/-- `irq[1] = tick_if AND tick_ie` (10_state.md rule R18). -/
def State.tickRequest (s : State) : Bool := s.tickIe && s.tickIf

/-- `irq[2] = blink_if AND blink_ie`, always 0 when HAS_BLINK = 0 (10_state.md rule R18). -/
def State.blinkRequest (s : State) : Bool := s.readBlinkIe && s.readBlinkIf

/-- The request vector `irq` (10_state.md rule R18, 30_encoding.md rule R62). -/
def State.irq (s : State) : IrqVector :=
  BitVec.ofBool s.blinkRequest ++ BitVec.ofBool s.tickRequest ++ BitVec.ofBool s.wakeRequest

/-- `irq != 0`: a dispatch is due (40_dispatcher.md rule R80). -/
def State.irqPending (s : State) : Bool := s.wakeRequest || s.tickRequest || s.blinkRequest

/-- At rest: `irq = 0` and the sequencer suspended (30_encoding.md rule R70). -/
def State.atRest (s : State) : Bool := !s.irqPending && decide (s.wait ≠ .none)

/-- The register IE, bit 0 wake, bit 1 tick, bit 2 blink (10_state.md rule R16). -/
def State.regIE (s : State) : BitVec 3 :=
  BitVec.ofBool s.readBlinkIe ++ BitVec.ofBool s.tickIe ++ BitVec.ofBool s.wakeIe

/-- The register IF, bit 0 wake, bit 1 tick, bit 2 blink (10_state.md rule R17). -/
def State.regIF (s : State) : BitVec 3 :=
  BitVec.ofBool s.readBlinkIf ++ BitVec.ofBool s.tickIf ++ BitVec.ofBool s.wakeIf

/-- The register TMR, bit 0 `tick_run`, bit 1 `blink_run`, bit 2 `dly` (10_state.md rule R19). -/
def State.regTMR (s : State) : BitVec 3 :=
  BitVec.ofBool s.dly ++ BitVec.ofBool s.readBlinkRun ++ BitVec.ofBool s.tickRun

/-- The indicator as an observer sees it: its level, or, while it is unspecified, a draw that may differ at each
transition (10_state.md rule R20; notes/assumptions/7.md). -/
def State.ledOut (s : State) : Bool :=
  match s.led with
  | .level b => b
  | .unspecified => Config.ledPlay s.draws

/-- The register OUT, bit 0 `motor_on`, bit 1 `led` (10_state.md rule R20). -/
def State.regOUT (s : State) : BitVec 2 := BitVec.ofBool s.ledOut ++ BitVec.ofBool s.motorOn

/-- `motor_pin = NOT motor_on` (10_state.md rule R21). -/
def State.motorPin (s : State) : Bool := !s.motorOn

/-- The power modes requested of the hardware abstraction (10_state.md rule R21, 60_exceptions.md rule R153). -/
inductive PowerMode where
  | run
  | light
  | deep
  deriving DecidableEq, Repr

/-- `pwr`, a function of `wait` (10_state.md rule R21). -/
def State.pwr (s : State) : PowerMode :=
  match s.wait with
  | .none => .run
  | .wake => .deep
  | .tick => .light
  | .blink => .light
  | .delay => .light

/-- The code of a power mode on the interface; 3 is never driven (10_state.md rule R30). -/
def powerCode : PowerMode → BitVec 2
  | .run => 0#2
  | .light => 1#2
  | .deep => 2#2

/-- The code of `wait` in traces; codes 5 to 7 are no values (10_state.md rule R24). -/
def waitCode : Wait → BitVec 3
  | .none => 0#3
  | .wake => 1#3
  | .tick => 2#3
  | .blink => 3#3
  | .delay => 4#3

end Sys2Proof.Machine
end

