-- ==== Sys2Proof/Machine/Operands.lean ====
section
/-! DEFINITION. The operands (30_encoding.md rule R65): the decode word, the ROM address, and the constants the operations
write. -/

namespace Sys2Proof.Machine

/-- The state code of GoToSleep (10_state.md rule R11). -/
def codeGoToSleep : StateCode := 0#3

/-- The state code of Sleep (10_state.md rule R11). -/
def codeSleep : StateCode := 1#3

/-- The state code of Wakeup (10_state.md rule R11). -/
def codeWakeup : StateCode := 2#3

/-- The state code of Tock (10_state.md rule R11). -/
def codeTock : StateCode := 3#3

/-- The state code of LightSleep, an illegal code when HAS_BLINK = 0 (10_state.md rule R11). -/
def codeLightSleep : StateCode := 4#3

/-- The sequencer's decode word, `dly` above `state` (30_encoding.md rule R61). -/
def State.decodeWord (s : State) : DecodeWord := BitVec.ofBool s.dly ++ s.state

/-- `tick >= MAX_TICKS`: the playback is over (41_sequencer.md rules R104, R108 (c)). -/
def State.playbackDone (s : State) : Bool := decide (Config.maxTicks ≤ s.tick.toNat)

/-- The tick operand of the lookup, `tick[5:0]` (42_profile_lookup.md rule R121). -/
def State.tickIndex (s : State) : TickIndex := s.tick.extractLsb' 0 6

/-- The ROM address: the profile number above the tick number, `64p + t` (30_encoding.md rule R64). -/
def romAddress (p : ProfileIndex) (t : TickIndex) : RomAddress := p ++ t

/-- `(profile_i + 1) mod 8`, the register's natural wrap (41_sequencer.md rule R108 (b)). -/
def nextProfile (p : ProfileIndex) : ProfileIndex := p + 1#3

/-- `tick + 1` (41_sequencer.md rule R108 (a)). -/
def nextTick (t : TickCount) : TickCount := t + 1#7

end Sys2Proof.Machine
end

