-- ==== Sys2Proof/Machine/Dispatcher.lean ====
section
/-! DEFINITION. The interrupt dispatcher: its three services and their composition DISPATCH (40_dispatcher.md rules R84 to
R87). As an operation on its own a service is the dispatch that performs it alone. -/

namespace Sys2Proof.Machine

/-- The service of the wake pin: a one-shot source, so its enable is cleared (40_dispatcher.md rule R84). -/
def serveWake (r : State × Bool) : State × Bool :=
  requestState codeWakeup .wake ((r.1.setWakeIf false).setWakeIe false, r.2)

/-- The service of the tick timer: a periodic source, so its enable stays set (40_dispatcher.md rule R85). -/
def serveTick (r : State × Bool) : State × Bool :=
  requestState codeTock .tick ((r.1.setTickIf false).assertTickClr, r.2)

/-- The service of the blink timer: it requests `ret_state` only while LightSleep is suspended (40_dispatcher.md rule
R86). -/
def serveBlink (r : State × Bool) : State × Bool :=
  if r.1.wait = .blink then requestState r.1.retState .blink (r.1.setBlinkIf false, r.2)
  else (r.1.setBlinkIf false, r.2)

/-- DISPATCH: the vector is sampled once, the selected services follow in the order wake, tick, blink, and the suspension
ends if one of them asked for it (40_dispatcher.md rule R87). -/
def dispatch (s : State) : State :=
  let v := s.irq
  let r0 := beginService s
  let r1 := if v.getLsbD 0 then serveWake r0 else r0
  let r2 := if v.getLsbD 1 then serveTick r1 else r1
  let r3 := if v.getLsbD 2 then serveBlink r2 else r2
  endService r3

/-- IRQ_WAKE (40_dispatcher.md rule R84). -/
def execIrqWake (s : State) : Host.Outcome State Fault Refusal := .next (endService (serveWake (beginService s)))

/-- IRQ_TICK (40_dispatcher.md rule R85). -/
def execIrqTick (s : State) : Host.Outcome State Fault Refusal := .next (endService (serveTick (beginService s)))

/-- IRQ_BLINK, which exists only when HAS_BLINK = 1 (40_dispatcher.md rule R86). -/
def execIrqBlink (s : State) : Host.Outcome State Fault Refusal :=
  if s.params.hasBlink then .next (endService (serveBlink (beginService s)))
  else .refused (.absentWithoutBlink "IRQ_BLINK")

end Sys2Proof.Machine
end

