-- ==== Sys2Proof/Machine/Events.lean ====
section
/-! DEFINITION. The environment's events (40_dispatcher.md rules R81 to R83, 43_settling_delay.md rule R132,
70_reset_and_hazards.md rule R170). Their effects are total: which of them the environment produces, and when, is the
predicate `State.envOk` of Safety.lean (93_implementation_defined.md U15). -/

namespace Sys2Proof.Machine

/-- EV_WAKE_EDGE: the flag latches whether or not its source is armed (40_dispatcher.md rule R81). -/
def execEvWakeEdge (s : State) : Host.Outcome State Fault Refusal := .next (s.setWakeIf true)

/-- EV_TICK_OVF (40_dispatcher.md rule R82). -/
def execEvTickOvf (s : State) : Host.Outcome State Fault Refusal := .next (s.setTickIf true)

/-- EV_BLINK_OVF, which exists only when HAS_BLINK = 1 (40_dispatcher.md rule R83). -/
def execEvBlinkOvf (s : State) : Host.Outcome State Fault Refusal :=
  if s.params.hasBlink then .next (s.setBlinkIf true) else .refused (.absentWithoutBlink "EV_BLINK_OVF")

/-- EV_DLY_DONE: the delay timer is the designated source of the settling delay's suspension; elsewhere its expiry does
nothing (43_settling_delay.md rule R132). -/
def execEvDlyDone (s : State) : Host.Outcome State Fault Refusal :=
  .next (if s.wait = .delay then s.setWait .none else s)

/-- The part of EV_RESET whose values the spec gives (70_reset_and_hazards.md rule R170, 10_state.md rule R28). -/
def resetGiven (s : State) : State :=
  (((((((((s.setState codeGoToSleep).setProfileI 0#3).setRetState codeGoToSleep).setWakeIe false).setTickIe false).setBlinkIe
    false).setDly false).setMotorOn false).setLed (.level false)).setWait .none

/-- The part of EV_RESET whose values the spec leaves unspecified, each drawn on its own (10_state.md rule R28;
notes/assumptions/6.md). -/
def resetDrawn (s : State) : State :=
  ((((((s.setTick (Config.resetTick s.draws)).setWakeIf (Config.resetWakeIf s.draws)).setTickIf
    (Config.resetTickIf s.draws)).setBlinkIf (Config.resetBlinkIf s.draws)).setTickRun (Config.resetTickRun s.draws)).setBlinkRun
    (Config.resetBlinkRun s.draws)).advanceDraws

/-- EV_RESET: power-on, in any state (70_reset_and_hazards.md rule R170). -/
def execEvReset (s : State) : Host.Outcome State Fault Refusal := .next (resetDrawn (resetGiven s))

end Sys2Proof.Machine
end

