-- ==== Sys2Proof/Machine/Lookup.lean ====
section
/-! DEFINITION. The ROM lookup PBIT (42_profile_lookup.md rules R120 to R122). -/

namespace Sys2Proof.Machine

/-- The transition's ROM access at `{p, t}`: the ROM port shows the address and the bit; no variable of the spec is written
(42_profile_lookup.md rule R120; notes/assumptions/9.md). -/
def State.performLookup (s : State) (p : ProfileIndex) (t : TickIndex) : State :=
  s.setLookup (romAddress p t) (romRead s.mem p t)

/-- PBIT: read one profile bit (42_profile_lookup.md rule R120). -/
def execPbit (p : ProfileIndex) (t : TickIndex) (s : State) : Host.Outcome State Fault Refusal :=
  .next (s.performLookup p t)

end Sys2Proof.Machine
end

