-- ==== Sys2Proof/Machine/Sequencer.lean ====
section
/-! DEFINITION. The sequencer's operations (41_sequencer.md rules R101 to R106, 43_settling_delay.md rule R131). -/

namespace Sys2Proof.Machine

/-! ## Shared parts -/

/-- Start the settling delay: arm the delay timer, show the indicator, suspend (43_settling_delay.md rule R130). -/
def State.startDelay (s : State) : State :=
  ((s.setDly true).setLed (.level s.params.delayLed)).setWait .delay

/-- "Disable all timers; drive motor/LED outputs off" (41_sequencer.md rule R101). -/
def State.allOff (s : State) : State :=
  (((s.setTickRun false).setBlinkRun false).setMotorOn false).setLed (.level false)

/-- "disable all interrupt sources then arm only the wake-pin interrupt; clear pending flags" (43_settling_delay.md rule
R131). -/
def State.armWakeOnly (s : State) : State :=
  ((((((s.setWakeIe false).setTickIe false).setBlinkIe false).setWakeIe true).setWakeIf false).setTickIf false).setBlinkIf false

/-- Arm the tick timer: clear its flag, start it, zero its counter, enable it (41_sequencer.md rule R103). -/
def State.armTick (s : State) : State :=
  (((s.setTickIf false).setTickRun true).assertTickClr).setTickIe true

/-- Arm the blink timer, where there is one (41_sequencer.md rule R103): its three bits are hard-wired to 0 without the
blink variant. -/
def State.armBlink (s : State) : State := ((s.setBlinkIf false).setBlinkRun true).setBlinkIe true

/-- TOCK's final branch: advance the profile index, request GoToSleep, nothing else (41_sequencer.md rule R104). -/
def State.finishPlayback (s : State) : State :=
  (s.setProfileI (nextProfile s.profileI)).setState codeGoToSleep

/-- TOCK's stepping branch: drive the bit of the current tick, then advance the tick and suspend (41_sequencer.md rule
R104, 42_profile_lookup.md rule R121). -/
def State.playTick (s : State) : State :=
  (((s.performLookup s.profileI s.tickIndex).setMotorOn (romRead s.mem s.profileI s.tickIndex)).setTick
    (nextTick s.tick)).setWait .tick

/-- Forced recovery: `state <- GoToSleep` and nothing else (41_sequencer.md rule R106). -/
def State.recover (s : State) : State := s.setState codeGoToSleep

/-! ## The operations -/

/-- SETTLE_DONE, whatever `state` holds (43_settling_delay.md rule R131). -/
def execSettleDone (_code : StateCode) (s : State) : Host.Outcome State Fault Refusal :=
  .next (((s.setDly false).setLed (.level false)).armWakeOnly.setState codeSleep)

/-- GOTOSLEEP (41_sequencer.md rule R101). -/
def execGotosleep (s : State) : Host.Outcome State Fault Refusal := .next s.allOff.startDelay

/-- SLEEP (41_sequencer.md rule R102). -/
def execSleep (s : State) : Host.Outcome State Fault Refusal := .next (s.setWait .wake)

/-- WAKEUP (41_sequencer.md rule R103); from here `led` is unspecified (10_state.md rule R20). -/
def execWakeup (s : State) : Host.Outcome State Fault Refusal :=
  .next ((((s.setWakeIe false).armTick.armBlink.setLed .unspecified).setTick 0#7).setState codeTock)

/-- TOCK (41_sequencer.md rule R104). -/
def execTock (s : State) : Host.Outcome State Fault Refusal :=
  .next (if s.playbackDone then s.finishPlayback else s.playTick)

/-- LIGHTSLEEP, which exists only when HAS_BLINK = 1 (41_sequencer.md rule R105). -/
def execLightsleep (s : State) : Host.Outcome State Fault Refusal :=
  if s.params.hasBlink then .next (s.setWait .blink) else .refused (.absentWithoutBlink "LIGHTSLEEP")

/-- RECOVER from state code 5 (41_sequencer.md rule R106). -/
def execRecoverFive (s : State) : Host.Outcome State Fault Refusal := .next s.recover

/-- RECOVER from state codes 6 and 7 (41_sequencer.md rule R106). -/
def execRecoverHigh (_low : BitVec 1) (s : State) : Host.Outcome State Fault Refusal := .next s.recover

/-- RECOVER from state code 4, selected only when HAS_BLINK = 0; its effect does not depend on that (41_sequencer.md rule
R106). -/
def execRecoverFour (s : State) : Host.Outcome State Fault Refusal := .next s.recover

end Sys2Proof.Machine
end

