-- ==== Sys2Proof/Syntax.lean ====
section
/-! DEFINITION. The operations of the block, one constructor per row of spec/opcode_table.json (30_encoding.md rules
R60, R66). The operands are the bits of the word that the row leaves open: those the operation reads (PBIT) and
those the row says are not examined (SETTLE_DONE, the second RECOVER row). -/

namespace Sys2Proof

/-- The operations (30_encoding.md rule R60). RECOVER has three rows and so three constructors of one operation. -/
inductive Instr where
  /-- SETTLE_DONE, `1xxx`: the state code under `dly = 1` is not examined (30_encoding.md rule R68). -/
  | settleDone (code : StateCode)
  /-- GOTOSLEEP, `0000`. -/
  | gotosleep
  /-- SLEEP, `0001`. -/
  | sleep
  /-- WAKEUP, `0010`. -/
  | wakeup
  /-- TOCK, `0011`. -/
  | tock
  /-- LIGHTSLEEP, `0100` when HAS_BLINK = 1. -/
  | lightsleep
  /-- RECOVER, `0101`: illegal state code 5. -/
  | recoverFive
  /-- RECOVER, `011x`: illegal state codes 6 and 7; the low bit is not examined. -/
  | recoverHigh (low : BitVec 1)
  /-- RECOVER, `0100` when HAS_BLINK = 0: state code 4 is illegal without LightSleep. -/
  | recoverFour
  /-- IRQ_WAKE, format I `xx1`. -/
  | irqWake
  /-- IRQ_TICK, format I `x1x`. -/
  | irqTick
  /-- IRQ_BLINK, format I `1xx` when HAS_BLINK = 1. -/
  | irqBlink
  /-- EV_WAKE_EDGE, format V `001`. -/
  | evWakeEdge
  /-- EV_TICK_OVF, format V `010`. -/
  | evTickOvf
  /-- EV_BLINK_OVF, format V `011` when HAS_BLINK = 1. -/
  | evBlinkOvf
  /-- EV_DLY_DONE, format V `100`. -/
  | evDlyDone
  /-- EV_RESET, format V `111`. -/
  | evReset
  /-- PBIT, format A: profile `p` above tick `t`. -/
  | pbit (p : ProfileIndex) (t : TickIndex)
  deriving DecidableEq, Repr

end Sys2Proof
end

