-- ==== Sys2Proof/Machine/Dispatch.lean ====
section
/-! DEFINITION. The meaning of every operation, one arm per constructor of Instr. -/

namespace Sys2Proof.Machine

def exec (i : Instr) (s : State) : Host.Outcome State Fault Refusal :=
  match i with
  | .settleDone code => Sys2Proof.Machine.execSettleDone code s
  | .gotosleep => Sys2Proof.Machine.execGotosleep s
  | .sleep => Sys2Proof.Machine.execSleep s
  | .wakeup => Sys2Proof.Machine.execWakeup s
  | .tock => Sys2Proof.Machine.execTock s
  | .lightsleep => Sys2Proof.Machine.execLightsleep s
  | .recoverFive => Sys2Proof.Machine.execRecoverFive s
  | .recoverHigh low => Sys2Proof.Machine.execRecoverHigh low s
  | .recoverFour => Sys2Proof.Machine.execRecoverFour s
  | .irqWake => Sys2Proof.Machine.execIrqWake s
  | .irqTick => Sys2Proof.Machine.execIrqTick s
  | .irqBlink => Sys2Proof.Machine.execIrqBlink s
  | .evWakeEdge => Sys2Proof.Machine.execEvWakeEdge s
  | .evTickOvf => Sys2Proof.Machine.execEvTickOvf s
  | .evBlinkOvf => Sys2Proof.Machine.execEvBlinkOvf s
  | .evDlyDone => Sys2Proof.Machine.execEvDlyDone s
  | .evReset => Sys2Proof.Machine.execEvReset s
  | .pbit p t => Sys2Proof.Machine.execPbit p t s

end Sys2Proof.Machine
end

