-- ==== Sys2Proof/WellFormed.lean ====
section
/-! DEFINITION. Which operations exist on a device with or without the blink variant (30_encoding.md rules R60, R66,
R69). -/

namespace Sys2Proof

/-- The operation exists where HAS_BLINK is `hasBlink`: LIGHTSLEEP, IRQ_BLINK and EV_BLINK_OVF need the blink
variant, and state code 4 is illegal (a RECOVER) only without it (30_encoding.md rules R60, R66). -/
def Instr.wellFormed (hasBlink : Bool) : Instr → Bool
  | .settleDone _ => true
  | .gotosleep => true
  | .sleep => true
  | .wakeup => true
  | .tock => true
  | .lightsleep => hasBlink
  | .recoverFive => true
  | .recoverHigh _ => true
  | .recoverFour => !hasBlink
  | .irqWake => true
  | .irqTick => true
  | .irqBlink => hasBlink
  | .evWakeEdge => true
  | .evTickOvf => true
  | .evBlinkOvf => hasBlink
  | .evDlyDone => true
  | .evReset => true
  | .pbit _ _ => true

end Sys2Proof
end

