-- ==== Sys2Proof/Decode.lean ====
section
/-! DEFINITION. The decoder of the four formats, total on every word and rejecting by name, and after it the encoder
from the same tables (30_encoding.md rules R61 to R68), and the numbering of spec/opcode_table.json. -/

namespace Sys2Proof

/-- Why a word selects no single operation. -/
inductive Reject where
  /-- An event code that names no event: 0, 5, 6, and 3 when HAS_BLINK = 0 (30_encoding.md rules R63, R67 (c)). -/
  | unassignedEvent (c : EventCode)
  /-- `irq = 0`, as far as its bits exist, selects no service (30_encoding.md rules R67 (b), R69). -/
  | noService
  /-- Format I is a set: a vector with several bits set is no single service (30_encoding.md rule R62). -/
  | severalServices (v : IrqVector)
  deriving DecidableEq, Repr

/-- The operation that a state code selects while `dly = 0` (30_encoding.md rules R66, R67 (a)). -/
def decodeStateCode (hasBlink : Bool) (code : StateCode) : Instr :=
  match code.toNat with
  | 0 => .gotosleep
  | 1 => .sleep
  | 2 => .wakeup
  | 3 => .tock
  | 4 => if hasBlink then .lightsleep else .recoverFour
  | 5 => .recoverFive
  | _ => .recoverHigh (code.extractLsb' 0 1)

/-- Format S: `dly` is examined first, then `state`; total (30_encoding.md rule R68). -/
def decodeS (hasBlink : Bool) (w : DecodeWord) : Instr :=
  if w.getLsbD 3 then .settleDone (w.extractLsb' 0 3) else decodeStateCode hasBlink (w.extractLsb' 0 3)

/-- Format I read as a set: the services a request vector selects, in the order of one dispatch, wake, tick, blink
(30_encoding.md rule R62, 40_dispatcher.md rule R87). When HAS_BLINK = 0 an absent bit 2 that is set selects nothing (DESIGN
CHOICE: the spec leaves such a word open, notes/assumptions/21.md). -/
def decodeServices (hasBlink : Bool) (v : IrqVector) : List Instr :=
  (if v.getLsbD 0 then [Instr.irqWake] else []) ++ (if v.getLsbD 1 then [Instr.irqTick] else []) ++
    (if v.getLsbD 2 && hasBlink then [Instr.irqBlink] else [])

/-- Format I read as one operation: only a vector that selects exactly one service names one; bit 2 alone selects nothing when
HAS_BLINK = 0, where it does not exist (30_encoding.md rules R62, R69). DESIGN CHOICE: a word with several bits set selects several
services (rule R62) and so no one operation, although a row of rule R66 leaves the other bits unexamined; and where HAS_BLINK = 0
the absent bit 2 counts among them (0b101, 0b110, 0b111), the spec leaving open what such a word is; `irq` never forms one
(notes/assumptions/21.md). -/
def decodeI (hasBlink : Bool) (v : IrqVector) : Except Reject Instr :=
  match v.toNat with
  | 0 => .error .noService
  | 1 => .ok .irqWake
  | 2 => .ok .irqTick
  | 4 => if hasBlink then .ok .irqBlink else .error .noService
  | _ => .error (.severalServices v)

/-- Format V: the event code (30_encoding.md rule R63). -/
def decodeV (hasBlink : Bool) (c : EventCode) : Except Reject Instr :=
  match c.toNat with
  | 1 => .ok .evWakeEdge
  | 2 => .ok .evTickOvf
  | 3 => if hasBlink then .ok .evBlinkOvf else .error (.unassignedEvent c)
  | 4 => .ok .evDlyDone
  | 7 => .ok .evReset
  | _ => .error (.unassignedEvent c)

/-- Format A: every address is a lookup (30_encoding.md rules R64, R66). -/
def decodeA (a : RomAddress) : Instr :=
  .pbit (a.extractLsb' 6 3) (a.extractLsb' 0 6)

/-- The decoder of all four formats. -/
def decode (hasBlink : Bool) : Coded → Except Reject Instr
  | .formatS w => .ok (decodeS hasBlink w)
  | .formatI v => decodeI hasBlink v
  | .formatV c => decodeV hasBlink c
  | .formatA a => .ok (decodeA a)

/-- The word that selects an operation (30_encoding.md rule R66); for a service the vector that selects it alone. -/
def encode : Instr → Coded
  | .settleDone code => .formatS (1#1 ++ code)
  | .gotosleep => .formatS 0b0000#4
  | .sleep => .formatS 0b0001#4
  | .wakeup => .formatS 0b0010#4
  | .tock => .formatS 0b0011#4
  | .lightsleep => .formatS 0b0100#4
  | .recoverFive => .formatS 0b0101#4
  | .recoverHigh low => .formatS (0b011#3 ++ low)
  | .recoverFour => .formatS 0b0100#4
  | .irqWake => .formatI 0b001#3
  | .irqTick => .formatI 0b010#3
  | .irqBlink => .formatI 0b100#3
  | .evWakeEdge => .formatV 0b001#3
  | .evTickOvf => .formatV 0b010#3
  | .evBlinkOvf => .formatV 0b011#3
  | .evDlyDone => .formatV 0b100#3
  | .evReset => .formatV 0b111#3
  | .pbit p t => .formatA (p ++ t)

/-- The coded word that spec/opcode_table.json's numbering denotes. The table numbers each format's bits from 0 and
gives no format bit, so the width decides: above 8 bits format A; 4 to 8 bits format S, the only word of that
width the block forms for itself; 3 bits or fewer format V, the only one of the two 3-bit formats that is a stored
code (notes/assumptions/10.md). -/
def tableWord (nbits w : Nat) : Option Coded :=
  if nbits ≤ 3 then (if w < 8 then some (.formatV (BitVec.ofNat 3 w)) else none)
  else if nbits ≤ 8 then (if w < 16 then some (.formatS (BitVec.ofNat 4 w)) else none)
  else if w < 512 then some (.formatA (BitVec.ofNat 9 w)) else none

/-- The operation a table word selects, on the canonical variant HAS_BLINK = 1 (00_scope.md rule R2). -/
def decodeTableWord (nbits w : Nat) : Option Instr :=
  match tableWord nbits w with
  | none => none
  | some c =>
    match decode true c with
    | .ok i => some i
    | .error _ => none

end Sys2Proof
end

