-- ==== Sys2Proof/Machine/Schedule.lean ====
section
/-! DEFINITION. Which agent moves next (20_memory.md rule R48, 40_dispatcher.md rule R80, 41_sequencer.md rule R100), and the
words of a trace's pseudo-operations (30_encoding.md rule R71). -/

namespace Sys2Proof.Machine

/-- The move that is due. -/
inductive Move where
  /-- One operation of the environment or of the sequencer. -/
  | operation (i : Instr)
  /-- One invocation of the dispatcher. -/
  | dispatch
  /-- No agent has a step and no event is due: the machine waits (notes/assumptions/4.md). -/
  | idle
  /-- The event due has an unassigned code (30_encoding.md rule R67 (c)). -/
  | malformed (c : EventCode)
  deriving DecidableEq, Repr

/-- The block's own move: the dispatcher before the sequencer, and the sequencer only while it is not suspended
(40_dispatcher.md rule R80, 41_sequencer.md rule R100). -/
def State.blockMove (s : State) : Move :=
  if s.irqPending then .dispatch
  else if s.wait = .none then .operation (decodeS s.params.hasBlink s.decodeWord)
  else .idle

/-- The environment's move: the event of a code (30_encoding.md rule R63). -/
def State.eventMove (s : State) (c : EventCode) : Move :=
  match decodeV s.params.hasBlink c with
  | .ok i => .operation i
  | .error _ => .malformed c

/-- The event that the next step delivers, if it delivers one (notes/assumptions/3.md). -/
def State.dueEvent (s : State) : Option EventCode :=
  match s.stimulus with
  | .event c :: _ => some c
  | .eventAtRest c :: _ => if s.atRest then some c else none
  | .block :: _ => none
  | [] => none

/-- The stimulus that remains after the next step. -/
def State.restStimulus (s : State) : List Turn :=
  match s.stimulus with
  | .event _ :: rest => rest
  | .eventAtRest c :: rest => if s.atRest then rest else .eventAtRest c :: rest
  | .block :: rest => rest
  | [] => []

/-- The move that is due: the environment's where an event is due, else the block's. -/
def State.nextMove (s : State) : Move :=
  match s.dueEvent with
  | some c => s.eventMove c
  | none => s.blockMove

/-! ## Stimulus traces -/

/-- A stimulus trace: events delivered at rest, in order (30_encoding.md rule R70). -/
def traceOf (codes : List EventCode) : List Turn := codes.map .eventAtRest

/-- `BOOT` (30_encoding.md rule R71). -/
def traceBoot : List EventCode := [7#3, 4#3]

/-- `SHAKE` (30_encoding.md rule R71). -/
def traceShake : List EventCode := [1#3]

/-- `TICKS n` (30_encoding.md rule R71). -/
def traceTicks (n : Nat) : List EventCode := List.replicate n 2#3

/-- `SETTLE` (30_encoding.md rule R71). -/
def traceSettle : List EventCode := [4#3]

/-- `CYCLE`, one complete activation (30_encoding.md rule R71). -/
def traceCycle : List EventCode := traceShake ++ traceTicks 64 ++ traceSettle

end Sys2Proof.Machine
end

