-- ==== Sys2Proof/Machine/Fetch.lean ====
section
/-! DEFINITION. Placing a word where the next step takes its operation from: the block fetches no instruction (10_state.md
rule R14), so each format has its own place (notes/assumptions/10.md, 11.md). -/

namespace Sys2Proof.Machine

/-- Nothing but the sequencer moves next: no event due, no source armed, not suspended (41_sequencer.md rule R100). -/
def State.sequencerNext (s : State) : State :=
  { s with stimulus := [], wakeIe := false, tickIe := false, blinkIe := false, wait := .none }

/-- The blink variant, which state code 4 (LIGHTSLEEP) and event code 3 (EV_BLINK_OVF) need (30_encoding.md rule R69). -/
def State.withBlink (s : State) : State := { s with params := { s.params with hasBlink := true } }

/-- Make the coded word the one that the next step runs: format S in `dly` and `state`, format V as the event due, format A
as the read pointer `(profile_i, tick)` of a stepping TOCK, format I as pending and armed sources. -/
def State.placeWord (s : State) : Coded → State
  | .formatS w =>
    let t := { s.sequencerNext with dly := w.getLsbD 3, state := w.extractLsb' 0 3 }
    if w = 4#4 then t.withBlink else t
  | .formatV c =>
    let t := { s with stimulus := .event c :: s.stimulus }
    if c = 3#3 then t.withBlink else t
  | .formatA a =>
    { s.sequencerNext with dly := false, state := codeTock, profileI := a.extractLsb' 6 3, tick := 0#1 ++ a.extractLsb' 0 6 }
  | .formatI v =>
    let t := { s with stimulus := [], wakeIe := v.getLsbD 0, tickIe := v.getLsbD 1, blinkIe := v.getLsbD 2,
                      wakeIf := v.getLsbD 0, tickIf := v.getLsbD 1, blinkIf := v.getLsbD 2 }
    if v.getLsbD 2 then t.withBlink else t

end Sys2Proof.Machine
end

