-- ==== Sys2Proof/Machine/Step.lean ====
section
/-! DEFINITION. One step of the machine: one atomic transition of the agent whose move is due (20_memory.md rules R47,
R48). -/

namespace Sys2Proof.Machine

/-- One transition (20_memory.md rule R47). -/
def step (s : State) : Host.Outcome State Fault Refusal :=
  match s.nextMove with
  | .operation i => exec i (s.enter s.restStimulus)
  | .dispatch => .next (dispatch (s.enter s.restStimulus))
  | .idle => .next (s.enter s.restStimulus)
  | .malformed c => .refused (.malformedStimulus c)

/-- The state with the operation of a table word placed so that the very next step runs it (notes/assumptions/10.md). -/
def State.withFetchWord (s : State) (nbits w : Nat) : State :=
  match tableWord nbits w with
  | some c => s.placeWord c
  | none => s

end Sys2Proof.Machine
end

