-- ==== Sys2Proof/Machine/Response.lean ====
section
/-! DEFINITION. The response of the machine to a stimulus trace: what was performed, transition by transition, and the outputs
observed after each (30_encoding.md rule R70). -/

namespace Sys2Proof.Machine

/-- The signals that leave the block (10_state.md rule R30). -/
structure Outputs where
  /-- `motor_on`. -/
  motorOn : Bool
  /-- `motor_pin` (rule R21). -/
  motorPin : Bool
  /-- `led` as an observer sees it, a free value while it is unspecified (rule R20; notes/assumptions/7.md). -/
  led : Bool
  /-- `wake_ie`. -/
  wakeIe : Bool
  /-- `tick_run`. -/
  tickRun : Bool
  /-- `blink_run`, 0 when HAS_BLINK = 0. -/
  blinkRun : Bool
  /-- `dly`. -/
  dly : Bool
  /-- `tick_clr`, asserted by the transition just taken. -/
  tickClr : Bool
  /-- `pwr` (rule R21). -/
  pwr : PowerMode
  deriving DecidableEq, Repr

/-- The outputs in a state (10_state.md rule R30). -/
def State.outputs (s : State) : Outputs where
  motorOn := s.motorOn
  motorPin := s.motorPin
  led := s.ledOut
  wakeIe := s.wakeIe
  tickRun := s.tickRun
  blinkRun := s.readBlinkRun
  dly := s.dly
  tickClr := s.tickClr
  pwr := s.pwr

/-- What one transition performs, as a response writes it (30_encoding.md rule R70; notes/assumptions/22.md). -/
inductive Performed where
  /-- An event of the trace. -/
  | event (i : Instr)
  /-- A sequencer operation, written by its name. -/
  | operation (i : Instr)
  /-- `DISPATCH{...}` with the services performed, in their order. -/
  | dispatch (services : List Instr)
  /-- Neither: the machine waits, or refuses the event due. -/
  | nothing
  deriving DecidableEq, Repr

/-- What the block's own move performs (40_dispatcher.md rules R80, R87, 41_sequencer.md rule R100). -/
def State.blockPerforms (s : State) : Performed :=
  match s.blockMove with
  | .operation i => .operation i
  | .dispatch => .dispatch (decodeServices s.params.hasBlink s.irq)
  | .idle => .nothing
  | .malformed _ => .nothing

/-- What the next step performs. -/
def State.performs (s : State) : Performed :=
  match s.dueEvent with
  | some c =>
    match decodeV s.params.hasBlink c with
    | .ok i => .event i
    | .error _ => .nothing
  | none => s.blockPerforms

/-- The name of an operation, as spec/opcode_table.json writes it (30_encoding.md rules R60, R66). -/
def opName : Instr → String
  | .settleDone _ => "SETTLE_DONE"
  | .gotosleep => "GOTOSLEEP"
  | .sleep => "SLEEP"
  | .wakeup => "WAKEUP"
  | .tock => "TOCK"
  | .lightsleep => "LIGHTSLEEP"
  | .recoverFive => "RECOVER"
  | .recoverHigh _ => "RECOVER"
  | .recoverFour => "RECOVER"
  | .irqWake => "IRQ_WAKE"
  | .irqTick => "IRQ_TICK"
  | .irqBlink => "IRQ_BLINK"
  | .evWakeEdge => "EV_WAKE_EDGE"
  | .evTickOvf => "EV_TICK_OVF"
  | .evBlinkOvf => "EV_BLINK_OVF"
  | .evDlyDone => "EV_DLY_DONE"
  | .evReset => "EV_RESET"
  | .pbit _ _ => "PBIT"

/-- What was performed, written as the rule writes it; the braces stand between the words by their codes 123 and 125
(30_encoding.md rule R70). -/
def Performed.text : Performed → String
  | .event i => opName i
  | .operation i => opName i
  | .dispatch services =>
    "DISPATCH" ++ String.singleton (Char.ofNat 123) ++ ", ".intercalate (services.map opName) ++
      String.singleton (Char.ofNat 125)
  | .nothing => ""

/-- One entry of a response: what was performed and the outputs after it (30_encoding.md rule R70). -/
structure Entry where
  performed : Performed
  outputs : Outputs
  deriving DecidableEq, Repr

/-- The events that a log of entries shows, in order. -/
def eventsOf : List Entry → List Instr
  | [] => []
  | e :: log =>
    match e.performed with
    | .event i => i :: eventsOf log
    | .operation _ => eventsOf log
    | .dispatch _ => eventsOf log
    | .nothing => eventsOf log

/-- The response proper: the block's operations and dispatches, without the events that caused them (30_encoding.md rule
R70). -/
def responseOf : List Entry → List Entry
  | [] => []
  | e :: log =>
    match e.performed with
    | .event _ => responseOf log
    | .operation _ => e :: responseOf log
    | .dispatch _ => e :: responseOf log
    | .nothing => responseOf log

/-- Steps until the stimulus is used up and the machine at rest, at most `n`, with an entry for each. -/
def recordToRest : Nat → State → Host.Outcome (List Entry × State) Fault Refusal
  | 0, s => .next ([], s)
  | n + 1, s =>
    if s.stimulus = [] ∧ s.atRest = true then .next ([], s)
    else
      match step s with
      | .fault r => .fault r
      | .refused r => .refused r
      | .next t =>
        match recordToRest n t with
        | .fault r => .fault r
        | .refused r => .refused r
        | .next (log, u) => .next (⟨s.performs, t.outputs⟩ :: log, u)

/-- The first code of a trace that names no event (30_encoding.md rule R67 (c)). -/
def firstUnassigned (hasBlink : Bool) : List EventCode → Option EventCode
  | [] => none
  | c :: codes =>
    match decodeV hasBlink c with
    | .ok _ => firstUnassigned hasBlink codes
    | .error _ => some c

/-- The steps that are enough: three to come to rest, and for each event itself and three more (30_encoding.md rule R70: at
most one dispatch and two operations). -/
def stepsToRest (codes : List EventCode) : Nat := 3 + 4 * codes.length

/-- The run-to-rest procedure: every event of the trace is delivered at rest, and the block moves until it is at rest again. The
answer is the log of what was performed, and the state at rest. A malformed trace is refused whole (30_encoding.md rules R67
(c), R70). -/
def respond (codes : List EventCode) (s : State) : Host.Outcome (List Entry × State) Fault Refusal :=
  match firstUnassigned s.params.hasBlink codes with
  | some c => .refused (.malformedStimulus c)
  | none => recordToRest (stepsToRest codes) { s with stimulus := traceOf codes }

/-- The response to the trace (30_encoding.md rule R70). -/
def response (codes : List EventCode) (s : State) : Host.Outcome (List Entry) Fault Refusal :=
  match respond codes s with
  | .next (log, _) => .next (responseOf log)
  | .fault r => .fault r
  | .refused r => .refused r

end Sys2Proof.Machine
end

