-- ==== Sys2Proof/Safety.lean ====
section
/-! DEFINITION. What counts as a run: the environment's rules (70_reset_and_hazards.md rules R180 to R182), runs and their
history, the phases of a normal run, and the states in which a suspension can never end. -/

namespace Sys2Proof.Machine

/-! ## The environment -/

/-- Suspended in light sleep under the tick or the blink timer (70_reset_and_hazards.md rule R182). -/
def State.timersCount (s : State) : Bool := decide (s.wait = .tick) || decide (s.wait = .blink)

/-- The environment produces the event in this state: power-on and wake edges always, a timer's event only while that timer
runs and the sequencer is suspended under it (70_reset_and_hazards.md rules R180 to R182). -/
def State.permits (s : State) (c : EventCode) : Bool :=
  match c.toNat with
  | 1 => true
  | 2 => s.tickRun && s.timersCount
  | 3 => s.readBlinkRun && s.timersCount
  | 4 => s.dly && decide (s.wait = .delay)
  | 7 => true
  | _ => false

/-- The event the next step delivers, if any, is one the environment produces here. -/
def State.envOk (s : State) : Bool :=
  match s.dueEvent with
  | some c => s.permits c
  | none => true

/-- `n` steps, one after the other. -/
def steps : Nat → State → Host.Outcome State Fault Refusal
  | 0, s => .next s
  | n + 1, s =>
    match step s with
    | .next t => steps n t
    | .fault r => .fault r
    | .refused r => .refused r

/-- Operations one after the other, without the start of a transition between them. -/
def performAll : List Instr → State → Host.Outcome State Fault Refusal
  | [], s => .next s
  | i :: rest, s =>
    match exec i s with
    | .next t => performAll rest t
    | .fault r => .fault r
    | .refused r => .refused r

/-! ## Runs from power-on -/

/-- A state right after power-on, whatever its unspecified variables hold (10_state.md rule R28). -/
def State.poweredOn (s : State) : Bool :=
  decide (s.state = 0#3) && decide (s.profileI = 0#3) && decide (s.retState = 0#3) && !s.wakeIe && !s.tickIe && !s.blinkIe &&
    !s.dly && !s.motorOn && decide (s.led = .level false) && decide (s.wait = .none)

/-- What has happened since the last power-on, as far as 10_state.md rule R29 speaks of it. -/
structure History where
  /-- A WAKEUP has been performed. -/
  woken : Bool
  /-- How many playbacks have been completed (final TOCKs). -/
  completed : Nat
  /-- A stepping TOCK has been performed and no GOTOSLEEP after it. -/
  driving : Bool
  /-- The delay timer has been armed and has not expired. -/
  delayArmed : Bool
  deriving DecidableEq, Repr

/-- Nothing has happened yet. -/
def History.fresh : History := ⟨false, 0, false, false⟩

/-- The history after the operation `i` performed in the state `s`. -/
def History.afterOperation (h : History) (s : State) : Instr → History
  | .settleDone _ => h
  | .gotosleep => { h with driving := false, delayArmed := true }
  | .sleep => h
  | .wakeup => { h with woken := true }
  | .tock => if s.playbackDone then { h with completed := h.completed + 1 } else { h with driving := true }
  | .lightsleep => h
  | .recoverFive => h
  | .recoverHigh _ => h
  | .recoverFour => h
  | .irqWake => h
  | .irqTick => h
  | .irqBlink => h
  | .evWakeEdge => h
  | .evTickOvf => h
  | .evBlinkOvf => h
  | .evDlyDone => { h with delayArmed := false }
  | .evReset => History.fresh
  | .pbit _ _ => h

/-- The history after the move `m` in the state `s`. -/
def History.after (h : History) (s : State) : Move → History
  | .operation i => h.afterOperation s i
  | .dispatch => h
  | .idle => h
  | .malformed _ => h

/-- The states that runs from a power-on reach under the environment's rules, with what has happened on the way. The
environment may choose further stimuli at any point (70_reset_and_hazards.md rules R180 to R182). -/
inductive Run : History → State → Prop where
  | powerOn (s : State) : s.poweredOn = true → Run History.fresh s
  | choose (h : History) (s : State) (l : List Turn) : Run h s → Run h { s with stimulus := l }
  | move (h : History) (s t : State) : Run h s → s.envOk = true → step s = .next t → Run (h.after s s.nextMove) t

/-! ## Phases of a normal run -/

/-- The timers stopped and the motor off. -/
def State.quiet (s : State) : Bool := !s.tickRun && !s.readBlinkRun && !s.motorOn

/-- The tick timer armed and running, the wake pin disarmed, no delay. -/
def State.playbackArmed (s : State) : Bool := s.tickIe && s.tickRun && !s.wakeIe && !s.dly

/-- The places of the normal cycle (41_sequencer.md rule R107). -/
inductive Phase where
  /-- After power-on, before the first GOTOSLEEP. -/
  | boot
  /-- The settling delay runs. -/
  | delay
  /-- The settling delay has expired; SETTLE_DONE is next. -/
  | settled
  /-- The wake pin is armed; SLEEP is next, unless an edge comes first. -/
  | armed
  /-- Deep sleep. -/
  | asleep
  /-- Woken; WAKEUP is next. -/
  | woken
  /-- Playback, a TOCK is next. -/
  | playing
  /-- Playback, suspended until the next tick. -/
  | waiting
  /-- The playback is over; GOTOSLEEP is next. -/
  | finished
  deriving DecidableEq, Repr

/-- The state is in that place of the normal cycle. -/
def State.inPhase (s : State) : Phase → Bool
  | .boot => decide (s.state = 0#3) && decide (s.wait = .none) && !s.dly && !s.wakeIe && !s.irqPending && !s.motorOn
  | .delay => decide (s.state = 0#3) && decide (s.wait = .delay) && s.dly && !s.wakeIe && !s.irqPending && s.quiet
  | .settled => decide (s.state = 0#3) && decide (s.wait = .none) && s.dly && !s.wakeIe && !s.irqPending && s.quiet
  | .armed =>
    decide (s.state = 1#3) && decide (s.wait = .none) && !s.dly && s.wakeIe && !s.tickIe && !s.readBlinkIe && s.quiet
  | .asleep =>
    decide (s.state = 1#3) && decide (s.wait = .wake) && !s.dly && s.wakeIe && !s.tickIe && !s.readBlinkIe && s.quiet
  | .woken =>
    decide (s.state = 2#3) && decide (s.wait = .none) && !s.dly && !s.wakeIe && !s.tickIe && !s.readBlinkIe && s.quiet
  | .playing =>
    decide (s.state = 3#3) && decide (s.wait = .none) && s.playbackArmed && !s.irqPending && decide (s.tick.toNat ≤ 64) &&
      (decide (s.tick ≠ 0#7) || !s.motorOn)
  | .waiting =>
    decide (s.state = 3#3) && decide (s.wait = .tick) && s.playbackArmed && decide (s.tick.toNat ≤ 64) && decide (s.tick ≠ 0#7)
  | .finished =>
    decide (s.state = 0#3) && decide (s.wait = .none) && s.playbackArmed && !s.irqPending && decide (s.tick.toNat = 64)

/-- The state is in some place of the normal cycle: the invariant behind 10_state.md rule R29. -/
def State.normal (s : State) : Prop := ∃ ph : Phase, s.inPhase ph = true

/-! ## Settling and stuck suspensions -/

/-- Between GOTOSLEEP and SETTLE_DONE (10_state.md rule R25). -/
def State.settling (s : State) : Bool := s.dly && (decide (s.wait = .delay) || decide (s.wait = .none))

/-- The suspension's designated source can no longer fire (60_exceptions.md rule R142 (c), 93_implementation_defined.md
U5). -/
def State.stuck (s : State) : Bool :=
  match s.wait with
  | .none => false
  | .wake => !s.wakeIe
  | .tick => !s.tickIe || (!s.tickRun && !s.tickIf)
  | .blink => !s.readBlinkIe || (!s.readBlinkRun && !s.readBlinkIf)
  | .delay => !s.dly

end Sys2Proof.Machine
end

