-- ==== Sys2Proof/Certificates/Slice0/Obligations.lean ====
section
/-! DEFINITION. The statements for the provers. Each says which rule of spec/ it formalises. -/

open Sys2Proof Sys2Proof.Machine

/-! ## Encoding -/

/-- Words written out from the table of 30_encoding.md rule R66 and what they select. That bits not examined are operands of the
operation is the model's choice (notes/assumptions/15.md). -/
def Obligations.SpecWordsDecode : Prop :=
  decode true (.formatS 0b1011#4) = .ok (.settleDone 0b011#3) ∧ decode true (.formatS 0b0011#4) = .ok .tock ∧
  decode true (.formatS 0b0100#4) = .ok .lightsleep ∧ decode false (.formatS 0b0100#4) = .ok .recoverFour ∧
  decode false (.formatS 0b0111#4) = .ok (.recoverHigh 1#1) ∧ decode true (.formatI 0b010#3) = .ok .irqTick ∧
  decode true (.formatV 0b011#3) = .ok .evBlinkOvf ∧ decode false (.formatV 0b111#3) = .ok .evReset ∧
  decode false (.formatV 0b011#3) = .error (.unassignedEvent 0b011#3) ∧
  decode false (.formatA 0b110001001#9) = .ok (.pbit 6#3 9#6)

/-- Decoding the word of an operation that exists on the device gives the operation back (30_encoding.md R66). That bits not
examined are operands of the operation is the model's choice (notes/assumptions/15.md). -/
def Obligations.EncodedOperationDecodesBack : Prop :=
  ∀ (b : Bool) (i : Instr), i.wellFormed b = true → decode b (encode i) = .ok i

/-- A word that the model decodes to one operation is that operation's word, and the operation exists on the device: no two words
of a format are confused (after the table of 30_encoding.md R66). It holds through two of the model's choices, which no rule
states: bits not examined are operands of the operation, so that words apart only in them are different operations
(notes/assumptions/15.md), and a format I word with more than one bit set decodes to no single operation, an absent bit 2 counted
where HAS_BLINK = 0 (notes/assumptions/21.md). -/
def Obligations.DecodedWordEncodesBack : Prop :=
  ∀ (b : Bool) (c : Coded) (i : Instr), decode b c = .ok i → i.wellFormed b = true ∧ encode i = c

/-! ## The step -/

/-- 41_sequencer.md R100 with 30_encoding.md R68: with no event due, no request and no suspension, the step is the one
operation that the decode word selects, `dly` looked at first. What the step adds to the operation is the start of the
transition. That bits not examined are operands of the operation is the model's choice (notes/assumptions/15.md). -/
def Obligations.StepRunsSelectedOperation : Prop :=
  ∀ s : State, s.dueEvent = none → s.irq = 0#3 → s.wait = .none →
    step s = exec
      (if s.dly then .settleDone s.state
       else if s.state = 0#3 then .gotosleep
       else if s.state = 1#3 then .sleep
       else if s.state = 2#3 then .wakeup
       else if s.state = 3#3 then .tock
       else if s.state = 4#3 then (if s.params.hasBlink then .lightsleep else .recoverFour)
       else if s.state = 5#3 then .recoverFive
       else .recoverHigh (s.state.extractLsb' 0 1))
      { s with tickClr := false, lookup := none, stimulus := s.restStimulus, draws := s.draws + 1 }

/-- 30_encoding.md R63 and R67 (c): the event due is the one its code names, and an unassigned code is refused, when it is due (the
model's choices, notes/assumptions/3.md, 12.md). -/
def Obligations.StepDeliversDueEvent : Prop :=
  ∀ (s : State) (c : EventCode), s.dueEvent = some c →
    let s' : State := { s with tickClr := false, lookup := none, stimulus := s.restStimulus, draws := s.draws + 1 }
    (c = 1#3 → step s = exec .evWakeEdge s') ∧ (c = 2#3 → step s = exec .evTickOvf s') ∧
    (c = 3#3 → s.params.hasBlink = true → step s = exec .evBlinkOvf s') ∧ (c = 4#3 → step s = exec .evDlyDone s') ∧
    (c = 7#3 → step s = exec .evReset s') ∧
    (c = 0#3 ∨ c = 5#3 ∨ c = 6#3 ∨ (c = 3#3 ∧ s.params.hasBlink = false) → step s = .refused (.malformedStimulus c))

/-- 40_dispatcher.md R80: with a request and no event due, the step is one dispatch, whatever the suspension. -/
def Obligations.StepDispatchesRequests : Prop :=
  ∀ s : State, s.dueEvent = none → s.irq ≠ 0#3 →
    step s = .next (dispatch { s with tickClr := false, lookup := none, stimulus := s.restStimulus, draws := s.draws + 1 })

/-- At rest with no event due nothing of the spec's state changes (the model's waiting step, notes/assumptions/4.md;
30_encoding.md R70). -/
def Obligations.StepWaitsAtRest : Prop :=
  ∀ s : State, s.dueEvent = none → s.irq = 0#3 → s.wait ≠ .none →
    step s = .next { s with tickClr := false, lookup := none, stimulus := s.restStimulus, draws := s.draws + 1 }

/-- The stimulus as the model reads it (notes/assumptions/3.md): an event is delivered at once, or at rest as in the traces of
30_encoding.md R70, or after a move of the block; a stimulus that has run out delivers nothing. -/
def Obligations.StimulusDeliveryOrder : Prop :=
  ∀ (s : State) (c : EventCode) (rest : List Turn),
    (s.stimulus = .event c :: rest → s.dueEvent = some c ∧ s.restStimulus = rest) ∧
    (s.stimulus = .eventAtRest c :: rest → s.irq = 0#3 → s.wait ≠ .none → s.dueEvent = some c ∧ s.restStimulus = rest) ∧
    (s.stimulus = .eventAtRest c :: rest → (s.irq ≠ 0#3 ∨ s.wait = .none) →
      s.dueEvent = none ∧ s.restStimulus = .eventAtRest c :: rest) ∧
    (s.stimulus = .block :: rest → s.dueEvent = none ∧ s.restStimulus = rest) ∧
    (s.stimulus = [] → s.dueEvent = none ∧ s.restStimulus = [])

/-- In every state the model's step answers a next state, unless the event due is unassigned (30_encoding.md section 5). Two of the
model's choices stand behind this: at rest or stuck the answer is the waiting step, which the spec does not have
(notes/assumptions/4.md), and a malformed stimulus runs until its bad code is due (notes/assumptions/12.md). -/
def Obligations.StepStopsOnlyOnMalformedStimulus : Prop :=
  ∀ s : State, (∃ t, step s = .next t) ∨
    ∃ c, s.dueEvent = some c ∧ (c = 0#3 ∨ c = 5#3 ∨ c = 6#3 ∨ (c = 3#3 ∧ s.params.hasBlink = false)) ∧
      step s = .refused (.malformedStimulus c)

/-! ## The dispatcher -/

/-- 40_dispatcher.md R84: IRQ_WAKE, which a dispatch performs when `irq[0] = 1`. -/
def Obligations.IrqWakeService : Prop :=
  ∀ s : State, (Instr.irqWake ∈ decodeServices s.params.hasBlink s.irq ↔ s.irq.getLsbD 0 = true) ∧
    exec .irqWake s =
      .next { s with wakeIf := false, wakeIe := false, state := 2#3, wait := if s.wait = .wake then .none else s.wait }

/-- 40_dispatcher.md R85: IRQ_TICK, which a dispatch performs when `irq[1] = 1`. `tick_ie` and `tick` are left alone. -/
def Obligations.IrqTickService : Prop :=
  ∀ s : State, (Instr.irqTick ∈ decodeServices s.params.hasBlink s.irq ↔ s.irq.getLsbD 1 = true) ∧
    exec .irqTick s =
      .next { s with tickIf := false, tickClr := true, state := 3#3, wait := if s.wait = .tick then .none else s.wait }

/-- 40_dispatcher.md R86: IRQ_BLINK, which a dispatch performs when `irq[2] = 1`, and its effect on the blink variant, where alone
it exists. -/
def Obligations.IrqBlinkService : Prop :=
  ∀ s : State, (Instr.irqBlink ∈ decodeServices s.params.hasBlink s.irq ↔ s.irq.getLsbD 2 = true) ∧
    (s.params.hasBlink = true → exec .irqBlink s =
      .next { s with blinkIf := false, state := if s.wait = .blink then s.retState else s.state,
                     wait := if s.wait = .blink then .none else s.wait })

/-- 40_dispatcher.md R80, R87: where one source alone requests, the step is its service. What the step adds to it is the start
of the transition. -/
def Obligations.StepPerformsLoneService : Prop :=
  ∀ s : State, s.dueEvent = none →
    let s' : State := { s with tickClr := false, lookup := none, stimulus := s.restStimulus, draws := s.draws + 1 }
    (s.irq = 0b001#3 → step s = exec .irqWake s') ∧ (s.irq = 0b010#3 → step s = exec .irqTick s') ∧
    (s.irq = 0b100#3 → step s = exec .irqBlink s')

/-- 40_dispatcher.md R87 with 30_encoding.md R62: a dispatch performs the services that the vector selects, in the order wake,
tick, blink. -/
def Obligations.DispatchPerformsSelectedServices : Prop :=
  ∀ s : State, performAll (decodeServices s.params.hasBlink s.irq) s = .next (dispatch s)

/-- 40_dispatcher.md R87: the whole effect of one dispatch, the last write of `state` standing, and its postcondition
`irq = 0`. -/
def Obligations.DispatchResult : Prop :=
  ∀ s : State,
    dispatch s =
      { s with
        wakeIf := s.wakeIf && !s.irq.getLsbD 0
        wakeIe := s.wakeIe && !s.irq.getLsbD 0
        tickIf := s.tickIf && !s.irq.getLsbD 1
        blinkIf := s.blinkIf && !s.irq.getLsbD 2
        tickClr := s.tickClr || s.irq.getLsbD 1
        state := if s.irq.getLsbD 2 ∧ s.wait = .blink then s.retState
                 else if s.irq.getLsbD 1 then 3#3
                 else if s.irq.getLsbD 0 then 2#3
                 else s.state
        wait := if (s.irq.getLsbD 0 ∧ s.wait = .wake) ∨ (s.irq.getLsbD 1 ∧ s.wait = .tick) ∨
                   (s.irq.getLsbD 2 ∧ s.wait = .blink) then .none else s.wait } ∧
    (dispatch s).irq = 0#3

/-- 40_dispatcher.md R88: what no dispatch does. -/
def Obligations.DispatcherTouchesNoPeripheral : Prop :=
  ∀ s : State,
    ((dispatch s).wait = s.wait ∨ (dispatch s).wait = .none) ∧ (dispatch s).tickRun = s.tickRun ∧
    (dispatch s).blinkRun = s.blinkRun ∧ (dispatch s).dly = s.dly ∧ (dispatch s).motorOn = s.motorOn ∧
    (dispatch s).led = s.led ∧ (dispatch s).tick = s.tick ∧ (dispatch s).profileI = s.profileI ∧
    (dispatch s).retState = s.retState ∧ (dispatch s).tickIe = s.tickIe ∧ (dispatch s).blinkIe = s.blinkIe ∧
    ((dispatch s).wakeIe = true → s.wakeIe = true) ∧ (dispatch s).mem = s.mem

/-! ## The events -/

/-- 40_dispatcher.md R81: EV_WAKE_EDGE. -/
def Obligations.WakeEdgeLatches : Prop :=
  (∀ b : Bool, decodeV b 0b001#3 = .ok .evWakeEdge) ∧
  ∀ s : State, exec .evWakeEdge s = .next { s with wakeIf := true } ∧
    (s.wakeIe = false → ({ s with wakeIf := true } : State).irq = s.irq) ∧
    (s.wakeIf = true → exec .evWakeEdge s = .next s) ∧
    (s.wakeIe = true → ({ s with wakeIf := true } : State).irq.getLsbD 0 = true)

/-- 40_dispatcher.md R82: EV_TICK_OVF. -/
def Obligations.TickOverflowLatches : Prop :=
  (∀ b : Bool, decodeV b 0b010#3 = .ok .evTickOvf) ∧
  ∀ s : State, exec .evTickOvf s = .next { s with tickIf := true } ∧
    (s.tickIe = false → ({ s with tickIf := true } : State).irq = s.irq) ∧
    (s.tickIe = true → ({ s with tickIf := true } : State).irq.getLsbD 1 = true)

/-- 40_dispatcher.md R83: EV_BLINK_OVF, on the blink variant, where alone it exists. -/
def Obligations.BlinkOverflowLatches : Prop :=
  decodeV true 0b011#3 = .ok .evBlinkOvf ∧
  ∀ s : State, s.params.hasBlink = true →
    exec .evBlinkOvf s = .next { s with blinkIf := true } ∧
    (s.blinkIe = false → ({ s with blinkIf := true } : State).irq = s.irq) ∧
    (s.blinkIe = true → ({ s with blinkIf := true } : State).irq.getLsbD 2 = true)

/-- 43_settling_delay.md R132: EV_DLY_DONE ends the delay suspension, after which SETTLE_DONE is the sequencer's move, and does
nothing anywhere else. -/
def Obligations.DelayExpiryEndsDelay : Prop :=
  (∀ b : Bool, decodeV b 0b100#3 = .ok .evDlyDone) ∧
  (∀ s : State, s.wait = .delay → exec .evDlyDone s = .next { s with wait := .none }) ∧
  (∀ s : State, s.wait ≠ .delay → exec .evDlyDone s = .next s) ∧
  (∀ s t : State, s.wait = .delay → s.dly = true → s.irq = 0#3 → exec .evDlyDone s = .next t →
    t.blockMove = .operation (.settleDone s.state))

/-- 70_reset_and_hazards.md R170: EV_RESET in any state. The variables that the spec leaves unspecified take some value (which
one is the model's free value, notes/assumptions/6.md; the blink bits are 0 without the blink variant), and the first operation
after it is GOTOSLEEP. -/
def Obligations.PowerOnReset : Prop :=
  (∀ b : Bool, decodeV b 0b111#3 = .ok .evReset) ∧
  ∀ s : State, ∃ (tick : TickCount) (wf tf bf tr br : Bool) (d : Nat),
    exec .evReset s = .next
      { s with
        state := 0#3, profileI := 0#3, retState := 0#3, wakeIe := false, tickIe := false, blinkIe := false
        dly := false, motorOn := false, led := .level false, wait := .none
        tick := tick, wakeIf := wf, tickIf := tf, blinkIf := bf && s.params.hasBlink
        tickRun := tr, blinkRun := br && s.params.hasBlink, draws := d } ∧
    ∀ t : State, exec .evReset s = .next t → t.irq = 0#3 ∧ t.decodeWord = 0b0000#4 ∧ t.blockMove = .operation .gotosleep

/-! ## The sequencer's operations -/

/-- 41_sequencer.md R101: GOTOSLEEP. -/
def Obligations.GotosleepEffect : Prop :=
  (∀ b : Bool, decodeS b 0b0000#4 = .gotosleep) ∧
  ∀ s : State, exec .gotosleep s =
    .next { s with tickRun := false, blinkRun := false, motorOn := false, dly := true,
                   led := .level s.params.delayLed, wait := .delay }

/-- 41_sequencer.md R102: SLEEP. -/
def Obligations.SleepEffect : Prop :=
  (∀ b : Bool, decodeS b 0b0001#4 = .sleep) ∧
  ∀ s : State, exec .sleep s = .next { s with wait := .wake } ∧ ({ s with wait := .wake } : State).pwr = .deep

/-- 41_sequencer.md R103: WAKEUP. The three blink bits are written where HAS_BLINK = 1 and read 0 where it is 0. No dispatch
follows from a stale flag, and a running sequencer goes straight on to TOCK. -/
def Obligations.WakeupEffect : Prop :=
  (∀ b : Bool, decodeS b 0b0010#4 = .wakeup) ∧
  ∀ s : State, exec .wakeup s =
    .next { s with wakeIe := false, tickIf := false, tickRun := true, tickClr := true, tickIe := true,
                   blinkIf := false, blinkRun := s.params.hasBlink, blinkIe := s.params.hasBlink,
                   led := .unspecified, tick := 0#7, state := 3#3 } ∧
    ∀ t : State, exec .wakeup s = .next t →
      t.irq = 0#3 ∧ (s.dly = false → s.wait = .none → t.blockMove = .operation .tock)

/-- 41_sequencer.md R104: TOCK, both branches. The bit is read at the tick before the increment; the final branch changes
nothing but `profile_i` and `state`, and a running sequencer goes on to GOTOSLEEP. The port `lookup` is the model's own field
(Obligations.RomPortShowsLookup). -/
def Obligations.TockEffect : Prop :=
  (∀ b : Bool, decodeS b 0b0011#4 = .tock) ∧
  (∀ s : State, 64 ≤ s.tick.toNat →
    exec .tock s = .next { s with profileI := BitVec.ofNat 3 ((s.profileI.toNat + 1) % 8), state := 0#3 }) ∧
  (∀ s : State, s.tick.toNat < 64 → ∃ port,
    exec .tock s =
      .next { s with motorOn := (s.mem.profile s.profileI).getLsbD s.tick.toNat, tick := BitVec.ofNat 7 (s.tick.toNat + 1),
                     wait := .tick, lookup := port }) ∧
  (∀ s t : State, 64 ≤ s.tick.toNat → s.dly = false → s.wait = .none → s.irq = 0#3 → exec .tock s = .next t →
    t.blockMove = .operation .gotosleep)

/-- 41_sequencer.md R105: LIGHTSLEEP, on the blink variant, where alone it exists. -/
def Obligations.LightsleepEffect : Prop :=
  decodeS true 0b0100#4 = .lightsleep ∧
  ∀ s : State, s.params.hasBlink = true → exec .lightsleep s = .next { s with wait := .blink }

/-- 41_sequencer.md R106: RECOVER, under each of its encodings; a running sequencer goes on to GOTOSLEEP. -/
def Obligations.RecoverEffect : Prop :=
  (∀ b : Bool, decodeS b 0b0101#4 = .recoverFive ∧ decodeS b 0b0110#4 = .recoverHigh 0#1 ∧
    decodeS b 0b0111#4 = .recoverHigh 1#1) ∧ decodeS false 0b0100#4 = .recoverFour ∧
  ∀ (s : State) (low : BitVec 1), exec .recoverFive s = .next { s with state := 0#3 } ∧
    exec (.recoverHigh low) s = .next { s with state := 0#3 } ∧ exec .recoverFour s = .next { s with state := 0#3 } ∧
    (s.dly = false → s.wait = .none → s.irq = 0#3 → ({ s with state := 0#3 } : State).blockMove = .operation .gotosleep)

/-- 43_settling_delay.md R131: SETTLE_DONE, whatever `state` holds. No dispatch follows it, and a running sequencer goes
straight on to SLEEP. -/
def Obligations.SettleDoneEffect : Prop :=
  (∀ (b : Bool) (code : StateCode), decodeS b (1#1 ++ code) = .settleDone code) ∧
  ∀ (s : State) (code : StateCode), exec (.settleDone code) s =
    .next { s with dly := false, led := .level false, wakeIe := true, tickIe := false, blinkIe := false,
                   wakeIf := false, tickIf := false, blinkIf := false, state := 1#3 } ∧
    ∀ t : State, exec (.settleDone code) s = .next t →
      t.regIE = 0b001#3 ∧ t.regIF = 0b000#3 ∧ t.irq = 0#3 ∧ (s.wait = .none → t.blockMove = .operation .sleep)

/-! ## The lookup and the ROM -/

/-- 42_profile_lookup.md R120: PBIT reads bit `t` of profile `p` and changes nothing; the bit appears at the ROM port, which is
the model's own field (notes/assumptions/9.md). -/
def Obligations.LookupReturnsProfileBit : Prop :=
  ∀ (p : ProfileIndex) (t : TickIndex), decodeA (p ++ t) = .pbit p t ∧ (p ++ t).toNat = 64 * p.toNat + t.toNat ∧
    ∀ s : State, exec (.pbit p t) s = .next { s with lookup := some (p ++ t, (s.mem.profile p).getLsbD t.toNat) }

/-- 42_profile_lookup.md R121, as the model's ROM port shows it (notes/assumptions/9.md): a stepping TOCK looks up the bit at
`{profile_i, tick}`, and a final TOCK looks up nothing. -/
def Obligations.RomPortShowsLookup : Prop :=
  ∀ s t : State, exec .tock s = .next t →
    (s.tick.toNat < 64 → t.lookup = some (BitVec.ofNat 9 (64 * s.profileI.toNat + s.tick.toNat),
      (s.mem.profile s.profileI).getLsbD s.tick.toNat)) ∧
    (64 ≤ s.tick.toNat → t.lookup = s.lookup)

/-- 20_memory.md R42: `RomRead(p, t)` is bit `t` of the profile's word, equivalently its lowest bit after a shift by `t`. -/
def Obligations.RomReadIsWordBit : Prop :=
  ∀ (m : Memory) (p : ProfileIndex) (t : TickIndex),
    romRead m p t = (m.profile p).getLsbD t.toNat ∧
    (romRead m p t = true ↔ (m.profile p >>> t.toNat) &&& 1#64 = 1#64)

/-- 20_memory.md R43: byte `b` of a profile holds ticks `8b` to `8b + 7`, least significant bit first. -/
def Obligations.RomByteViewOrder : Prop :=
  ∀ (m : Memory) (p : ProfileIndex) (t : TickIndex),
    romRead m p t = (m.read (8 * p.toNat + t.toNat / 8)).getLsbD (t.toNat % 8)

/-- 20_memory.md R53: a ROM with nothing listed holds the parameter PROFILE (the model's choice, notes/assumptions/2.md). -/
def Obligations.UnlistedRomIsParameter : Prop :=
  ∀ (p : ProfileIndex) (t : TickIndex), romRead [] p t = (Config.profile p).getLsbD t.toNat

/-- 20_memory.md R40: no operation writes the ROM; nor does any change the build-time options (00_scope.md R6). -/
def Obligations.StepKeepsRomAndOptions : Prop :=
  ∀ s t : State, step s = .next t → t.mem = s.mem ∧ t.params = s.params

/-! ## Registers, over the whole machine -/

/-- 10_state.md R18: the request vector, bit by bit; the dispatcher is invoked exactly when it is not 0, and the sequencer has a
step only when it is 0. -/
def Obligations.RequestVector : Prop :=
  ∀ s : State, s.irq = s.regIF &&& s.regIE ∧ s.irq.getLsbD 0 = (s.wakeIf && s.wakeIe) ∧
    s.irq.getLsbD 1 = (s.tickIf && s.tickIe) ∧ s.irq.getLsbD 2 = (s.blinkIf && s.blinkIe && s.params.hasBlink) ∧
    (s.blockMove = .dispatch ↔ s.irq ≠ 0#3) ∧ ∀ i, s.blockMove = .operation i → s.irq = 0#3

/-- 10_state.md R21: the derived outputs. -/
def Obligations.DerivedOutputs : Prop :=
  ∀ s : State, s.motorPin = !s.motorOn ∧ (s.pwr = .run ↔ s.wait = .none) ∧ (s.pwr = .deep ↔ s.wait = .wake) ∧
    (s.pwr = .light ↔ s.wait = .tick ∨ s.wait = .blink ∨ s.wait = .delay)

/-- 10_state.md R16, R17, R19: without the blink variant the blink bits read 0 in every state and discard every write. -/
def Obligations.BlinkBitsHardwired : Prop :=
  ∀ s : State, s.params.hasBlink = false →
    s.regIE.getLsbD 2 = false ∧ s.regIF.getLsbD 2 = false ∧ s.regTMR.getLsbD 1 = false ∧
    ∀ b : Bool, (s.setBlinkIe b).regIE = s.regIE ∧ (s.setBlinkIf b).regIF = s.regIF ∧ (s.setBlinkRun b).regTMR = s.regTMR

/-- 10_state.md R28, the values the table gives, in the model's state after reset; the unspecified ones are free constants of the
configuration (the model's choice, notes/assumptions/6.md). -/
def Obligations.ResetValues : Prop :=
  State.reset.state = 0#3 ∧ State.reset.profileI = 0#3 ∧ State.reset.retState = 0#3 ∧ State.reset.regIE = 0b000#3 ∧
  State.reset.dly = false ∧ State.reset.motorOn = false ∧ State.reset.led = .level false ∧ State.reset.wait = .none ∧
  State.reset.tick = Config.resetTick 0 ∧ State.reset.wakeIf = Config.resetWakeIf 0 ∧
  State.reset.tickIf = Config.resetTickIf 0 ∧ State.reset.blinkIf = (Config.params.hasBlink && Config.resetBlinkIf 0) ∧
  State.reset.tickRun = Config.resetTickRun 0 ∧ State.reset.blinkRun = (Config.params.hasBlink && Config.resetBlinkRun 0) ∧
  step State.reset = exec .gotosleep { State.reset with draws := 1 }

/-- 10_state.md R13: who writes `profile_i`, and what. -/
def Obligations.ProfileIndexWriters : Prop :=
  ∀ s t : State, step s = .next t → t.profileI ≠ s.profileI →
    (s.nextMove = .operation .tock ∧ 64 ≤ s.tick.toNat ∧ t.profileI = s.profileI + 1#3) ∨
    (s.nextMove = .operation .evReset ∧ t.profileI = 0#3)

/-- 42_profile_lookup.md R124 with 10_state.md R12: who writes `tick`, and what. -/
def Obligations.TickCounterWriters : Prop :=
  ∀ s t : State, step s = .next t → t.tick ≠ s.tick →
    (s.nextMove = .operation .tock ∧ s.tick.toNat < 64 ∧ t.tick.toNat = s.tick.toNat + 1) ∨
    (s.nextMove = .operation .wakeup ∧ t.tick = 0#7) ∨ s.nextMove = .operation .evReset

/-- 10_state.md R15: `ret_state` has no writer but reset. -/
def Obligations.ReturnStateWriters : Prop :=
  ∀ s t : State, step s = .next t → t.retState ≠ s.retState → s.nextMove = .operation .evReset ∧ t.retState = 0#3

/-- 10_state.md R16: what arms each interrupt source. -/
def Obligations.EnablesRiseOnlyByArming : Prop :=
  ∀ s t : State, step s = .next t →
    (s.wakeIe = false → t.wakeIe = true → ∃ code, s.nextMove = .operation (.settleDone code)) ∧
    (s.tickIe = false → t.tickIe = true → s.nextMove = .operation .wakeup) ∧
    (s.blinkIe = false → t.blinkIe = true → s.nextMove = .operation .wakeup ∧ s.params.hasBlink = true)

/-- 10_state.md R17: what sets each pending flag (a reset may leave any value, R28). -/
def Obligations.FlagsRiseOnlyByEvents : Prop :=
  ∀ s t : State, step s = .next t → s.nextMove ≠ .operation .evReset →
    (s.wakeIf = false → t.wakeIf = true → s.nextMove = .operation .evWakeEdge) ∧
    (s.tickIf = false → t.tickIf = true → s.nextMove = .operation .evTickOvf) ∧
    (s.blinkIf = false → t.blinkIf = true → s.nextMove = .operation .evBlinkOvf)

/-- 42_profile_lookup.md R123: the motor goes on only by a stepping TOCK whose profile bit is 1. -/
def Obligations.MotorStartsOnlyByProfileBit : Prop :=
  ∀ s t : State, step s = .next t → s.motorOn = false → t.motorOn = true →
    s.nextMove = .operation .tock ∧ s.tick.toNat < 64 ∧ (s.mem.profile s.profileI).getLsbD s.tick.toNat = true

/-- 10_state.md R24: what ends each suspension. -/
def Obligations.SuspensionEndsByDesignatedSource : Prop :=
  ∀ s t : State, step s = .next t → s.wait ≠ .none → t.wait ≠ s.wait →
    t.wait = .none ∧
    (s.nextMove = .operation .evReset ∨
     (s.nextMove = .operation .evDlyDone ∧ s.wait = .delay) ∨
     (s.nextMove = .dispatch ∧ ((s.wait = .wake ∧ s.irq.getLsbD 0 = true) ∨ (s.wait = .tick ∧ s.irq.getLsbD 1 = true) ∨
       (s.wait = .blink ∧ s.irq.getLsbD 2 = true))))

/-- While `led` is unspecified an observation of it is a free value, and no two transitions share one: every step advances the
counter that the free values are applied to (the model's choice, notes/assumptions/5.md, 7.md; 10_state.md R20). -/
def Obligations.ObservationsAreFresh : Prop :=
  (∀ (s : State) (b : Bool), s.led = .level b → s.ledOut = b) ∧
  (∀ s : State, s.led = .unspecified → s.ledOut = Config.ledPlay s.draws) ∧
  ∀ s t : State, step s = .next t → s.draws < t.draws

/-- 10_state.md R27: no operation reads `led`: whatever it holds, the step is the same but for `led` itself. -/
def Obligations.NoOperationReadsIndicator : Prop :=
  ∀ (s t : State) (v : Indicator), step s = .next t →
    ∃ u : State, step { s with led := v } = .next u ∧ { u with led := t.led } = t

/-! ## Invariants -/

/-- 10_state.md R29 (a): the bound on `tick`, once it holds, is kept by every step but a reset. -/
def Obligations.TickBoundKept : Prop :=
  ∀ s t : State, s.tick.toNat ≤ 64 → s.nextMove ≠ .operation .evReset → step s = .next t →
    t.tick.toNat ≤ 64 ∧ (t.lookup ≠ none → s.tick.toNat < 64)

/-- The state after reset, and every state right after a power-on, is a state of the normal cycle. -/
def Obligations.PowerOnStatesAreNormal : Prop :=
  State.reset.poweredOn = true ∧ ∀ s : State, s.poweredOn = true → s.normal

/-- The normal cycle is kept by every step whose event, if it delivers one, the environment's rules permit. -/
def Obligations.NormalCycleKept : Prop :=
  ∀ s t : State, s.normal → s.envOk = true → step s = .next t → t.normal

/-- 10_state.md R29, all its clauses, in every run from a power-on under the environment's rules. A playback counts as completed at
its final TOCK (the model's reading, notes/assumptions/17.md). -/
def Obligations.RunsKeepInvariants : Prop :=
  ∀ (h : History) (s : State), Run h s →
    -- (a)
    (h.woken = true → s.tick.toNat ≤ 64) ∧ (∀ t, step s = .next t → t.lookup ≠ none → s.tick.toNat < 64) ∧
    -- (b)
    (s.nextMove = .operation .tock → h.woken = true) ∧
    -- (c)
    s.profileI.toNat = h.completed % 8 ∧
    -- (d)
    (∀ i, s.dueEvent = none → s.nextMove = .operation i →
      (s.state.toNat < 4 ∨ (s.state = 4#3 ∧ s.params.hasBlink = true)) ∧ i ≠ .lightsleep ∧ i ≠ .recoverFive ∧
      i ≠ .recoverFour ∧ ∀ low, i ≠ .recoverHigh low) ∧
    -- (e)
    (s.wakeIe = true → s.state = 1#3 ∧ s.tickIe = false ∧ s.readBlinkIe = false ∧ s.tickRun = false ∧
      s.readBlinkRun = false ∧ s.dly = false ∧ s.motorOn = false) ∧
    -- (f)
    (s.wait = .wake → s.wakeIe = true ∧ s.state = 1#3) ∧
    -- (g)
    (s.wait = .tick → s.tickIe = true ∧ s.tickRun = true) ∧
    -- (h)
    (s.wait = .delay ↔ h.delayArmed = true) ∧ (s.dly = true → s.tickRun = false ∧ s.readBlinkRun = false) ∧
    -- (i)
    (s.motorOn = true → h.driving = true)

/-- 43_settling_delay.md R133, from every state, corrupted ones too: between GOTOSLEEP and SETTLE_DONE no step performs WAKEUP,
and the interval ends only by a reset or by SETTLE_DONE, which leaves `Sleep` with only the wake pin armed and no flag set. -/
def Obligations.SettlingIgnoresBounces : Prop :=
  ∀ s t : State, s.settling = true → step s = .next t →
    (t.settling = true ∧ s.nextMove ≠ .operation .wakeup) ∨ s.nextMove = .operation .evReset ∨
    (∃ code, s.nextMove = .operation (.settleDone code) ∧ t.state = 1#3 ∧ t.wait = .none ∧ t.dly = false ∧
      t.regIE = 0b001#3 ∧ t.regIF = 0b000#3)

/-- 60_exceptions.md R142 (c): a suspension whose source can no longer fire lasts under every event that the environment
produces but a reset. -/
def Obligations.StuckSuspensionsLast : Prop :=
  ∀ s t : State, s.stuck = true → s.envOk = true → s.nextMove ≠ .operation .evReset → step s = .next t →
    t.stuck = true ∧ t.wait = s.wait

/-! ## Runs -/

/-- 41_sequencer.md R107: a running sequencer with nothing to serve suspends after one or two operations. -/
def Obligations.SequencerSuspendsWithinTwo : Prop :=
  ∀ s : State, s.stimulus = [] → s.wait = .none → s.irq = 0#3 →
    (∃ t, steps 1 s = .next t ∧ t.wait ≠ .none ∧ t.irq = 0#3) ∨ (∃ t, steps 2 s = .next t ∧ t.wait ≠ .none ∧ t.irq = 0#3)

/-- 30_encoding.md R70, R67 (c). After an event the machine is at rest again within one dispatch and two operations. A trace of
assigned codes has a response: run to rest from any state, it ends at rest with every event delivered, at rest and in order; its log
has one entry per step, with the outputs after that step and what the step performed, a dispatch with its services while irq != 0,
else the operation that the decode word selects. A trace with an unassigned code is refused whole. The stimulus is the model's
(notes/assumptions/3.md), and so is the form of the log, a first run to rest where the start is not at rest, and the value of `led` in
an entry while it is unspecified (notes/assumptions/7.md, 12.md, 22.md). -/
def Obligations.EventRunsToRest : Prop :=
  (∀ (s : State) (c : EventCode), s.stimulus = [.event c] → s.irq = 0#3 → s.wait ≠ .none →
    (c = 1#3 ∨ c = 2#3 ∨ (c = 3#3 ∧ s.params.hasBlink = true) ∨ c = 4#3 ∨ c = 7#3) →
    ∃ n t, 1 ≤ n ∧ n ≤ 4 ∧ steps n s = .next t ∧ t.irq = 0#3 ∧ t.wait ≠ .none) ∧
  (∀ (s : State) (codes : List EventCode),
    (∀ c ∈ codes, c = 1#3 ∨ c = 2#3 ∨ (c = 3#3 ∧ s.params.hasBlink = true) ∨ c = 4#3 ∨ c = 7#3) →
    ∃ log t, respond codes s = .next (log, t) ∧ t.irq = 0#3 ∧ t.wait ≠ .none ∧ t.stimulus = [] ∧
      log.length ≤ 3 + 4 * codes.length ∧ steps log.length { s with stimulus := traceOf codes } = .next t ∧
      (eventsOf log).map Except.ok = codes.map (decodeV s.params.hasBlink) ∧
      ∀ k e, log[k]? = some e →
        ∃ u v, steps k { s with stimulus := traceOf codes } = .next u ∧ step u = .next v ∧ e.outputs = v.outputs ∧
          ((u.irq = 0#3 ∧ u.wait ≠ .none ∧ ∃ i, u.nextMove = .operation i ∧ e.performed = .event i) ∨
           (u.irq ≠ 0#3 ∧ e.performed = .dispatch (decodeServices s.params.hasBlink u.irq)) ∨
           (u.irq = 0#3 ∧ u.wait = .none ∧ e.performed = .operation (decodeS s.params.hasBlink u.decodeWord)))) ∧
  (∀ (s : State) (codes : List EventCode),
    (∃ c ∈ codes, c = 0#3 ∨ (c = 3#3 ∧ s.params.hasBlink = false) ∨ c = 5#3 ∨ c = 6#3) →
    ∃ c ∈ codes, (c = 0#3 ∨ (c = 3#3 ∧ s.params.hasBlink = false) ∨ c = 5#3 ∨ c = 6#3) ∧
      respond codes s = .refused (.malformedStimulus c))

/-- 70_reset_and_hazards.md R171: from any state, power-on and the expiry of the first settling delay lead to deep sleep
(the events come from the model's stimulus, notes/assumptions/3.md). -/
def Obligations.BootReachesDeepSleep : Prop :=
  ∀ s : State, s.stimulus = [.event 7#3, .eventAtRest 4#3] →
    ∃ t0 t, steps 1 s = .next t0 ∧ steps 5 s = .next t ∧ t.state = 1#3 ∧ t.wait = .wake ∧ t.regIE = 0b001#3 ∧ t.regIF = 0b000#3 ∧
      t.regTMR = 0b000#3 ∧ t.motorOn = false ∧ t.led = .level false ∧ t.profileI = 0#3 ∧ t.tick = t0.tick ∧ t.stimulus = []

/-- 40_dispatcher.md R82, R83, the source's scenario 3: in deep sleep with no timer armed a spurious overflow of the tick timer, or on
the blink variant of the blink timer, latches its flag and changes nothing else of the spec's state, and the machine goes on
resting. The fields that the start of a transition writes are the model's bookkeeping (notes/assumptions/3.md, 5.md, 8.md, 9.md). -/
def Obligations.DeepSleepIgnoresTimers : Prop :=
  ∀ (s : State) (rest : List Turn), s.inPhase .asleep = true → s.wakeIf = false →
    let s' : State := { s with tickClr := false, lookup := none, stimulus := rest, draws := s.draws + 1 }
    (s.stimulus = .event 2#3 :: rest →
      step s = .next { s' with tickIf := true } ∧ ({ s' with tickIf := true } : State).irq = 0#3 ∧
      ({ s' with tickIf := true } : State).atRest = true ∧ ({ s' with tickIf := true } : State).inPhase .asleep = true) ∧
    (s.params.hasBlink = true → s.stimulus = .event 3#3 :: rest →
      step s = .next { s' with blinkIf := true } ∧ ({ s' with blinkIf := true } : State).irq = 0#3 ∧
      ({ s' with blinkIf := true } : State).atRest = true ∧ ({ s' with blinkIf := true } : State).inPhase .asleep = true)

/-- 41_sequencer.md R109 with 42_profile_lookup.md R122, R123: woken, and given tick events at rest, the machine drives the bits of
the current profile, tick 0 first, one per tick, and looks each up once: neither WAKEUP before the first lookup nor the event and the
dispatch between two lookups accesses the ROM (the port is the model's own field, notes/assumptions/9.md). -/
def Obligations.PlaybackDrivesProfileBits : Prop :=
  ∀ (s : State) (n k : Nat), s.inPhase .woken = true → n < 64 → n ≤ k → s.stimulus = traceOf (traceTicks k) →
    (∃ t, steps 1 s = .next t ∧ t.lookup = none) ∧
    (∃ t, steps (2 + 3 * n) s = .next t ∧ t.motorOn = (s.mem.profile s.profileI).getLsbD n ∧ t.tick.toNat = n + 1 ∧
      t.profileI = s.profileI ∧ t.state = 3#3 ∧ t.wait = .tick ∧ t.stimulus = traceOf (traceTicks (k - n)) ∧
      t.lookup = some (BitVec.ofNat 9 (64 * s.profileI.toNat + n), (s.mem.profile s.profileI).getLsbD n)) ∧
    (n < k → (∃ t, steps (2 + 3 * n + 1) s = .next t ∧ t.lookup = none) ∧
      ∃ t, steps (2 + 3 * n + 2) s = .next t ∧ t.lookup = none)

/-- 41_sequencer.md R109: one complete activation, from deep sleep back to deep sleep, in 200 steps: a wake edge, 64 tick events
and one delay expiry advance the profile index by one (the events come from the model's stimulus, notes/assumptions/3.md). -/
def Obligations.ActivationReturnsToSleep : Prop :=
  ∀ s : State, s.inPhase .asleep = true → s.wakeIf = false → s.stimulus = traceOf traceCycle →
    ∃ t, steps 200 s = .next t ∧ t.inPhase .asleep = true ∧ t.profileI.toNat = (s.profileI.toNat + 1) % 8 ∧
      t.tick = 64#7 ∧ t.regIE = 0b001#3 ∧ t.regIF = 0b000#3 ∧ t.regTMR = 0b000#3 ∧ t.motorOn = false ∧
      t.led = .level false ∧ t.stimulus = [] ∧ t.mem = s.mem

/-! ## Without the blink variant -/

/-- LIGHTSLEEP, IRQ_BLINK and EV_BLINK_OVF exist only when HAS_BLINK = 1 (30_encoding.md R60). That performing one of them where
HAS_BLINK = 0 is refused is the model's reading (notes/assumptions/13.md). -/
def Obligations.AbsentOperationsAreRefused : Prop :=
  ∀ s : State, s.params.hasBlink = false →
    exec .lightsleep s = .refused (.absentWithoutBlink "LIGHTSLEEP") ∧
    exec .irqBlink s = .refused (.absentWithoutBlink "IRQ_BLINK") ∧
    exec .evBlinkOvf s = .refused (.absentWithoutBlink "EV_BLINK_OVF")
end

