-- ==== Sys2Proof/Laws/Decode.lean ====
section
/-! SUPPORT. What a decoder's answer says (30_encoding.md rules R63, R67). -/

namespace Sys2Proof

theorem code_cases (c : BitVec 3) :
    c = 0#3 ∨ c = 1#3 ∨ c = 2#3 ∨ c = 3#3 ∨ c = 4#3 ∨ c = 5#3 ∨ c = 6#3 ∨ c = 7#3 := by
  revert c
  decide

/-- The codes that name an event, and which. -/
theorem decodeV_ok_cases {b : Bool} {c : EventCode} {i : Instr} (h : decodeV b c = .ok i) :
    (c = 1#3 ∧ i = .evWakeEdge) ∨ (c = 2#3 ∧ i = .evTickOvf) ∨ (c = 3#3 ∧ b = true ∧ i = .evBlinkOvf) ∨
    (c = 4#3 ∧ i = .evDlyDone) ∨ (c = 7#3 ∧ i = .evReset) := by
  revert h
  rcases code_cases c with rfl | rfl | rfl | rfl | rfl | rfl | rfl | rfl <;> cases b <;> simp [decodeV, eq_comm]

/-- The codes that name none. -/
theorem decodeV_error_cases {b : Bool} {c : EventCode} {r : Reject} (h : decodeV b c = .error r) :
    c = 0#3 ∨ (c = 3#3 ∧ b = false) ∨ c = 5#3 ∨ c = 6#3 := by
  revert h
  rcases code_cases c with rfl | rfl | rfl | rfl | rfl | rfl | rfl | rfl <;> cases b <;> simp [decodeV]

/-- The operation of a decode word is one of the sequencer's and exists on the device. -/
theorem decodeS_cases (b : Bool) (w : DecodeWord) :
    (∃ code, decodeS b w = .settleDone code) ∨ decodeS b w = .gotosleep ∨ decodeS b w = .sleep ∨ decodeS b w = .wakeup ∨
    decodeS b w = .tock ∨ (b = true ∧ decodeS b w = .lightsleep) ∨ decodeS b w = .recoverFive ∨
    (∃ low, decodeS b w = .recoverHigh low) ∨ (b = false ∧ decodeS b w = .recoverFour) := by
  unfold decodeS
  split
  · exact .inl ⟨_, rfl⟩
  · rcases code_cases (w.extractLsb' 0 3) with h | h | h | h | h | h | h | h <;> cases b <;> simp [decodeStateCode, h]

end Sys2Proof
end

