-- ==== Sys2Proof/Laws/State.lean ====
section
/-! SUPPORT. Every field after every register operation, one law per operation: what it writes and, field by field, what it
leaves alone. `simp` takes each law apart into its equations. -/

namespace Sys2Proof.Machine

variable (s : State)

@[simp] theorem State.setState_fields (v : StateCode) :
    (s.setState v).state = v ∧ (s.setState v).tick = s.tick ∧ (s.setState v).profileI = s.profileI ∧
    (s.setState v).retState = s.retState ∧ (s.setState v).wakeIe = s.wakeIe ∧ (s.setState v).tickIe = s.tickIe ∧
    (s.setState v).blinkIe = s.blinkIe ∧ (s.setState v).wakeIf = s.wakeIf ∧ (s.setState v).tickIf = s.tickIf ∧
    (s.setState v).blinkIf = s.blinkIf ∧ (s.setState v).tickRun = s.tickRun ∧ (s.setState v).blinkRun = s.blinkRun ∧
    (s.setState v).dly = s.dly ∧ (s.setState v).motorOn = s.motorOn ∧ (s.setState v).led = s.led ∧
    (s.setState v).wait = s.wait ∧ (s.setState v).tickClr = s.tickClr ∧ (s.setState v).lookup = s.lookup ∧
    (s.setState v).mem = s.mem ∧ (s.setState v).params = s.params ∧ (s.setState v).stimulus = s.stimulus ∧
    (s.setState v).draws = s.draws := by
  and_intros <;> rfl

@[simp] theorem State.setTick_fields (v : TickCount) :
    (s.setTick v).state = s.state ∧ (s.setTick v).tick = v ∧ (s.setTick v).profileI = s.profileI ∧
    (s.setTick v).retState = s.retState ∧ (s.setTick v).wakeIe = s.wakeIe ∧ (s.setTick v).tickIe = s.tickIe ∧
    (s.setTick v).blinkIe = s.blinkIe ∧ (s.setTick v).wakeIf = s.wakeIf ∧ (s.setTick v).tickIf = s.tickIf ∧
    (s.setTick v).blinkIf = s.blinkIf ∧ (s.setTick v).tickRun = s.tickRun ∧ (s.setTick v).blinkRun = s.blinkRun ∧
    (s.setTick v).dly = s.dly ∧ (s.setTick v).motorOn = s.motorOn ∧ (s.setTick v).led = s.led ∧
    (s.setTick v).wait = s.wait ∧ (s.setTick v).tickClr = s.tickClr ∧ (s.setTick v).lookup = s.lookup ∧
    (s.setTick v).mem = s.mem ∧ (s.setTick v).params = s.params ∧ (s.setTick v).stimulus = s.stimulus ∧
    (s.setTick v).draws = s.draws := by
  and_intros <;> rfl

@[simp] theorem State.setProfileI_fields (v : ProfileIndex) :
    (s.setProfileI v).state = s.state ∧ (s.setProfileI v).tick = s.tick ∧ (s.setProfileI v).profileI = v ∧
    (s.setProfileI v).retState = s.retState ∧ (s.setProfileI v).wakeIe = s.wakeIe ∧
    (s.setProfileI v).tickIe = s.tickIe ∧ (s.setProfileI v).blinkIe = s.blinkIe ∧
    (s.setProfileI v).wakeIf = s.wakeIf ∧ (s.setProfileI v).tickIf = s.tickIf ∧
    (s.setProfileI v).blinkIf = s.blinkIf ∧ (s.setProfileI v).tickRun = s.tickRun ∧
    (s.setProfileI v).blinkRun = s.blinkRun ∧ (s.setProfileI v).dly = s.dly ∧ (s.setProfileI v).motorOn = s.motorOn ∧
    (s.setProfileI v).led = s.led ∧ (s.setProfileI v).wait = s.wait ∧ (s.setProfileI v).tickClr = s.tickClr ∧
    (s.setProfileI v).lookup = s.lookup ∧ (s.setProfileI v).mem = s.mem ∧ (s.setProfileI v).params = s.params ∧
    (s.setProfileI v).stimulus = s.stimulus ∧ (s.setProfileI v).draws = s.draws := by
  and_intros <;> rfl

@[simp] theorem State.setRetState_fields (v : StateCode) :
    (s.setRetState v).state = s.state ∧ (s.setRetState v).tick = s.tick ∧ (s.setRetState v).profileI = s.profileI ∧
    (s.setRetState v).retState = v ∧ (s.setRetState v).wakeIe = s.wakeIe ∧ (s.setRetState v).tickIe = s.tickIe ∧
    (s.setRetState v).blinkIe = s.blinkIe ∧ (s.setRetState v).wakeIf = s.wakeIf ∧
    (s.setRetState v).tickIf = s.tickIf ∧ (s.setRetState v).blinkIf = s.blinkIf ∧
    (s.setRetState v).tickRun = s.tickRun ∧ (s.setRetState v).blinkRun = s.blinkRun ∧ (s.setRetState v).dly = s.dly ∧
    (s.setRetState v).motorOn = s.motorOn ∧ (s.setRetState v).led = s.led ∧ (s.setRetState v).wait = s.wait ∧
    (s.setRetState v).tickClr = s.tickClr ∧ (s.setRetState v).lookup = s.lookup ∧ (s.setRetState v).mem = s.mem ∧
    (s.setRetState v).params = s.params ∧ (s.setRetState v).stimulus = s.stimulus ∧ (s.setRetState v).draws = s.draws := by
  and_intros <;> rfl

@[simp] theorem State.setWakeIe_fields (b : Bool) :
    (s.setWakeIe b).state = s.state ∧ (s.setWakeIe b).tick = s.tick ∧ (s.setWakeIe b).profileI = s.profileI ∧
    (s.setWakeIe b).retState = s.retState ∧ (s.setWakeIe b).wakeIe = b ∧ (s.setWakeIe b).tickIe = s.tickIe ∧
    (s.setWakeIe b).blinkIe = s.blinkIe ∧ (s.setWakeIe b).wakeIf = s.wakeIf ∧ (s.setWakeIe b).tickIf = s.tickIf ∧
    (s.setWakeIe b).blinkIf = s.blinkIf ∧ (s.setWakeIe b).tickRun = s.tickRun ∧
    (s.setWakeIe b).blinkRun = s.blinkRun ∧ (s.setWakeIe b).dly = s.dly ∧ (s.setWakeIe b).motorOn = s.motorOn ∧
    (s.setWakeIe b).led = s.led ∧ (s.setWakeIe b).wait = s.wait ∧ (s.setWakeIe b).tickClr = s.tickClr ∧
    (s.setWakeIe b).lookup = s.lookup ∧ (s.setWakeIe b).mem = s.mem ∧ (s.setWakeIe b).params = s.params ∧
    (s.setWakeIe b).stimulus = s.stimulus ∧ (s.setWakeIe b).draws = s.draws := by
  and_intros <;> rfl

@[simp] theorem State.setTickIe_fields (b : Bool) :
    (s.setTickIe b).state = s.state ∧ (s.setTickIe b).tick = s.tick ∧ (s.setTickIe b).profileI = s.profileI ∧
    (s.setTickIe b).retState = s.retState ∧ (s.setTickIe b).wakeIe = s.wakeIe ∧ (s.setTickIe b).tickIe = b ∧
    (s.setTickIe b).blinkIe = s.blinkIe ∧ (s.setTickIe b).wakeIf = s.wakeIf ∧ (s.setTickIe b).tickIf = s.tickIf ∧
    (s.setTickIe b).blinkIf = s.blinkIf ∧ (s.setTickIe b).tickRun = s.tickRun ∧
    (s.setTickIe b).blinkRun = s.blinkRun ∧ (s.setTickIe b).dly = s.dly ∧ (s.setTickIe b).motorOn = s.motorOn ∧
    (s.setTickIe b).led = s.led ∧ (s.setTickIe b).wait = s.wait ∧ (s.setTickIe b).tickClr = s.tickClr ∧
    (s.setTickIe b).lookup = s.lookup ∧ (s.setTickIe b).mem = s.mem ∧ (s.setTickIe b).params = s.params ∧
    (s.setTickIe b).stimulus = s.stimulus ∧ (s.setTickIe b).draws = s.draws := by
  and_intros <;> rfl

@[simp] theorem State.setBlinkIe_fields (b : Bool) :
    (s.setBlinkIe b).state = s.state ∧ (s.setBlinkIe b).tick = s.tick ∧ (s.setBlinkIe b).profileI = s.profileI ∧
    (s.setBlinkIe b).retState = s.retState ∧ (s.setBlinkIe b).wakeIe = s.wakeIe ∧
    (s.setBlinkIe b).tickIe = s.tickIe ∧ (s.setBlinkIe b).blinkIe = (b && s.params.hasBlink) ∧
    (s.setBlinkIe b).wakeIf = s.wakeIf ∧ (s.setBlinkIe b).tickIf = s.tickIf ∧ (s.setBlinkIe b).blinkIf = s.blinkIf ∧
    (s.setBlinkIe b).tickRun = s.tickRun ∧ (s.setBlinkIe b).blinkRun = s.blinkRun ∧ (s.setBlinkIe b).dly = s.dly ∧
    (s.setBlinkIe b).motorOn = s.motorOn ∧ (s.setBlinkIe b).led = s.led ∧ (s.setBlinkIe b).wait = s.wait ∧
    (s.setBlinkIe b).tickClr = s.tickClr ∧ (s.setBlinkIe b).lookup = s.lookup ∧ (s.setBlinkIe b).mem = s.mem ∧
    (s.setBlinkIe b).params = s.params ∧ (s.setBlinkIe b).stimulus = s.stimulus ∧ (s.setBlinkIe b).draws = s.draws := by
  and_intros <;> rfl

@[simp] theorem State.setWakeIf_fields (b : Bool) :
    (s.setWakeIf b).state = s.state ∧ (s.setWakeIf b).tick = s.tick ∧ (s.setWakeIf b).profileI = s.profileI ∧
    (s.setWakeIf b).retState = s.retState ∧ (s.setWakeIf b).wakeIe = s.wakeIe ∧ (s.setWakeIf b).tickIe = s.tickIe ∧
    (s.setWakeIf b).blinkIe = s.blinkIe ∧ (s.setWakeIf b).wakeIf = b ∧ (s.setWakeIf b).tickIf = s.tickIf ∧
    (s.setWakeIf b).blinkIf = s.blinkIf ∧ (s.setWakeIf b).tickRun = s.tickRun ∧
    (s.setWakeIf b).blinkRun = s.blinkRun ∧ (s.setWakeIf b).dly = s.dly ∧ (s.setWakeIf b).motorOn = s.motorOn ∧
    (s.setWakeIf b).led = s.led ∧ (s.setWakeIf b).wait = s.wait ∧ (s.setWakeIf b).tickClr = s.tickClr ∧
    (s.setWakeIf b).lookup = s.lookup ∧ (s.setWakeIf b).mem = s.mem ∧ (s.setWakeIf b).params = s.params ∧
    (s.setWakeIf b).stimulus = s.stimulus ∧ (s.setWakeIf b).draws = s.draws := by
  and_intros <;> rfl

@[simp] theorem State.setTickIf_fields (b : Bool) :
    (s.setTickIf b).state = s.state ∧ (s.setTickIf b).tick = s.tick ∧ (s.setTickIf b).profileI = s.profileI ∧
    (s.setTickIf b).retState = s.retState ∧ (s.setTickIf b).wakeIe = s.wakeIe ∧ (s.setTickIf b).tickIe = s.tickIe ∧
    (s.setTickIf b).blinkIe = s.blinkIe ∧ (s.setTickIf b).wakeIf = s.wakeIf ∧ (s.setTickIf b).tickIf = b ∧
    (s.setTickIf b).blinkIf = s.blinkIf ∧ (s.setTickIf b).tickRun = s.tickRun ∧
    (s.setTickIf b).blinkRun = s.blinkRun ∧ (s.setTickIf b).dly = s.dly ∧ (s.setTickIf b).motorOn = s.motorOn ∧
    (s.setTickIf b).led = s.led ∧ (s.setTickIf b).wait = s.wait ∧ (s.setTickIf b).tickClr = s.tickClr ∧
    (s.setTickIf b).lookup = s.lookup ∧ (s.setTickIf b).mem = s.mem ∧ (s.setTickIf b).params = s.params ∧
    (s.setTickIf b).stimulus = s.stimulus ∧ (s.setTickIf b).draws = s.draws := by
  and_intros <;> rfl

@[simp] theorem State.setBlinkIf_fields (b : Bool) :
    (s.setBlinkIf b).state = s.state ∧ (s.setBlinkIf b).tick = s.tick ∧ (s.setBlinkIf b).profileI = s.profileI ∧
    (s.setBlinkIf b).retState = s.retState ∧ (s.setBlinkIf b).wakeIe = s.wakeIe ∧
    (s.setBlinkIf b).tickIe = s.tickIe ∧ (s.setBlinkIf b).blinkIe = s.blinkIe ∧ (s.setBlinkIf b).wakeIf = s.wakeIf ∧
    (s.setBlinkIf b).tickIf = s.tickIf ∧ (s.setBlinkIf b).blinkIf = (b && s.params.hasBlink) ∧
    (s.setBlinkIf b).tickRun = s.tickRun ∧ (s.setBlinkIf b).blinkRun = s.blinkRun ∧ (s.setBlinkIf b).dly = s.dly ∧
    (s.setBlinkIf b).motorOn = s.motorOn ∧ (s.setBlinkIf b).led = s.led ∧ (s.setBlinkIf b).wait = s.wait ∧
    (s.setBlinkIf b).tickClr = s.tickClr ∧ (s.setBlinkIf b).lookup = s.lookup ∧ (s.setBlinkIf b).mem = s.mem ∧
    (s.setBlinkIf b).params = s.params ∧ (s.setBlinkIf b).stimulus = s.stimulus ∧ (s.setBlinkIf b).draws = s.draws := by
  and_intros <;> rfl

@[simp] theorem State.setTickRun_fields (b : Bool) :
    (s.setTickRun b).state = s.state ∧ (s.setTickRun b).tick = s.tick ∧ (s.setTickRun b).profileI = s.profileI ∧
    (s.setTickRun b).retState = s.retState ∧ (s.setTickRun b).wakeIe = s.wakeIe ∧
    (s.setTickRun b).tickIe = s.tickIe ∧ (s.setTickRun b).blinkIe = s.blinkIe ∧ (s.setTickRun b).wakeIf = s.wakeIf ∧
    (s.setTickRun b).tickIf = s.tickIf ∧ (s.setTickRun b).blinkIf = s.blinkIf ∧ (s.setTickRun b).tickRun = b ∧
    (s.setTickRun b).blinkRun = s.blinkRun ∧ (s.setTickRun b).dly = s.dly ∧ (s.setTickRun b).motorOn = s.motorOn ∧
    (s.setTickRun b).led = s.led ∧ (s.setTickRun b).wait = s.wait ∧ (s.setTickRun b).tickClr = s.tickClr ∧
    (s.setTickRun b).lookup = s.lookup ∧ (s.setTickRun b).mem = s.mem ∧ (s.setTickRun b).params = s.params ∧
    (s.setTickRun b).stimulus = s.stimulus ∧ (s.setTickRun b).draws = s.draws := by
  and_intros <;> rfl

@[simp] theorem State.setBlinkRun_fields (b : Bool) :
    (s.setBlinkRun b).state = s.state ∧ (s.setBlinkRun b).tick = s.tick ∧ (s.setBlinkRun b).profileI = s.profileI ∧
    (s.setBlinkRun b).retState = s.retState ∧ (s.setBlinkRun b).wakeIe = s.wakeIe ∧
    (s.setBlinkRun b).tickIe = s.tickIe ∧ (s.setBlinkRun b).blinkIe = s.blinkIe ∧
    (s.setBlinkRun b).wakeIf = s.wakeIf ∧ (s.setBlinkRun b).tickIf = s.tickIf ∧
    (s.setBlinkRun b).blinkIf = s.blinkIf ∧ (s.setBlinkRun b).tickRun = s.tickRun ∧
    (s.setBlinkRun b).blinkRun = (b && s.params.hasBlink) ∧ (s.setBlinkRun b).dly = s.dly ∧
    (s.setBlinkRun b).motorOn = s.motorOn ∧ (s.setBlinkRun b).led = s.led ∧ (s.setBlinkRun b).wait = s.wait ∧
    (s.setBlinkRun b).tickClr = s.tickClr ∧ (s.setBlinkRun b).lookup = s.lookup ∧ (s.setBlinkRun b).mem = s.mem ∧
    (s.setBlinkRun b).params = s.params ∧ (s.setBlinkRun b).stimulus = s.stimulus ∧ (s.setBlinkRun b).draws = s.draws := by
  and_intros <;> rfl

@[simp] theorem State.setDly_fields (b : Bool) :
    (s.setDly b).state = s.state ∧ (s.setDly b).tick = s.tick ∧ (s.setDly b).profileI = s.profileI ∧
    (s.setDly b).retState = s.retState ∧ (s.setDly b).wakeIe = s.wakeIe ∧ (s.setDly b).tickIe = s.tickIe ∧
    (s.setDly b).blinkIe = s.blinkIe ∧ (s.setDly b).wakeIf = s.wakeIf ∧ (s.setDly b).tickIf = s.tickIf ∧
    (s.setDly b).blinkIf = s.blinkIf ∧ (s.setDly b).tickRun = s.tickRun ∧ (s.setDly b).blinkRun = s.blinkRun ∧
    (s.setDly b).dly = b ∧ (s.setDly b).motorOn = s.motorOn ∧ (s.setDly b).led = s.led ∧ (s.setDly b).wait = s.wait ∧
    (s.setDly b).tickClr = s.tickClr ∧ (s.setDly b).lookup = s.lookup ∧ (s.setDly b).mem = s.mem ∧
    (s.setDly b).params = s.params ∧ (s.setDly b).stimulus = s.stimulus ∧ (s.setDly b).draws = s.draws := by
  and_intros <;> rfl

@[simp] theorem State.setMotorOn_fields (b : Bool) :
    (s.setMotorOn b).state = s.state ∧ (s.setMotorOn b).tick = s.tick ∧ (s.setMotorOn b).profileI = s.profileI ∧
    (s.setMotorOn b).retState = s.retState ∧ (s.setMotorOn b).wakeIe = s.wakeIe ∧
    (s.setMotorOn b).tickIe = s.tickIe ∧ (s.setMotorOn b).blinkIe = s.blinkIe ∧ (s.setMotorOn b).wakeIf = s.wakeIf ∧
    (s.setMotorOn b).tickIf = s.tickIf ∧ (s.setMotorOn b).blinkIf = s.blinkIf ∧
    (s.setMotorOn b).tickRun = s.tickRun ∧ (s.setMotorOn b).blinkRun = s.blinkRun ∧ (s.setMotorOn b).dly = s.dly ∧
    (s.setMotorOn b).motorOn = b ∧ (s.setMotorOn b).led = s.led ∧ (s.setMotorOn b).wait = s.wait ∧
    (s.setMotorOn b).tickClr = s.tickClr ∧ (s.setMotorOn b).lookup = s.lookup ∧ (s.setMotorOn b).mem = s.mem ∧
    (s.setMotorOn b).params = s.params ∧ (s.setMotorOn b).stimulus = s.stimulus ∧ (s.setMotorOn b).draws = s.draws := by
  and_intros <;> rfl

@[simp] theorem State.setLed_fields (v : Indicator) :
    (s.setLed v).state = s.state ∧ (s.setLed v).tick = s.tick ∧ (s.setLed v).profileI = s.profileI ∧
    (s.setLed v).retState = s.retState ∧ (s.setLed v).wakeIe = s.wakeIe ∧ (s.setLed v).tickIe = s.tickIe ∧
    (s.setLed v).blinkIe = s.blinkIe ∧ (s.setLed v).wakeIf = s.wakeIf ∧ (s.setLed v).tickIf = s.tickIf ∧
    (s.setLed v).blinkIf = s.blinkIf ∧ (s.setLed v).tickRun = s.tickRun ∧ (s.setLed v).blinkRun = s.blinkRun ∧
    (s.setLed v).dly = s.dly ∧ (s.setLed v).motorOn = s.motorOn ∧ (s.setLed v).led = v ∧ (s.setLed v).wait = s.wait ∧
    (s.setLed v).tickClr = s.tickClr ∧ (s.setLed v).lookup = s.lookup ∧ (s.setLed v).mem = s.mem ∧
    (s.setLed v).params = s.params ∧ (s.setLed v).stimulus = s.stimulus ∧ (s.setLed v).draws = s.draws := by
  and_intros <;> rfl

@[simp] theorem State.setWait_fields (w : Wait) :
    (s.setWait w).state = s.state ∧ (s.setWait w).tick = s.tick ∧ (s.setWait w).profileI = s.profileI ∧
    (s.setWait w).retState = s.retState ∧ (s.setWait w).wakeIe = s.wakeIe ∧ (s.setWait w).tickIe = s.tickIe ∧
    (s.setWait w).blinkIe = s.blinkIe ∧ (s.setWait w).wakeIf = s.wakeIf ∧ (s.setWait w).tickIf = s.tickIf ∧
    (s.setWait w).blinkIf = s.blinkIf ∧ (s.setWait w).tickRun = s.tickRun ∧ (s.setWait w).blinkRun = s.blinkRun ∧
    (s.setWait w).dly = s.dly ∧ (s.setWait w).motorOn = s.motorOn ∧ (s.setWait w).led = s.led ∧
    (s.setWait w).wait = w ∧ (s.setWait w).tickClr = s.tickClr ∧ (s.setWait w).lookup = s.lookup ∧
    (s.setWait w).mem = s.mem ∧ (s.setWait w).params = s.params ∧ (s.setWait w).stimulus = s.stimulus ∧
    (s.setWait w).draws = s.draws := by
  and_intros <;> rfl

@[simp] theorem State.assertTickClr_fields :
    (s.assertTickClr).state = s.state ∧ (s.assertTickClr).tick = s.tick ∧ (s.assertTickClr).profileI = s.profileI ∧
    (s.assertTickClr).retState = s.retState ∧ (s.assertTickClr).wakeIe = s.wakeIe ∧
    (s.assertTickClr).tickIe = s.tickIe ∧ (s.assertTickClr).blinkIe = s.blinkIe ∧
    (s.assertTickClr).wakeIf = s.wakeIf ∧ (s.assertTickClr).tickIf = s.tickIf ∧
    (s.assertTickClr).blinkIf = s.blinkIf ∧ (s.assertTickClr).tickRun = s.tickRun ∧
    (s.assertTickClr).blinkRun = s.blinkRun ∧ (s.assertTickClr).dly = s.dly ∧ (s.assertTickClr).motorOn = s.motorOn ∧
    (s.assertTickClr).led = s.led ∧ (s.assertTickClr).wait = s.wait ∧ (s.assertTickClr).tickClr = true ∧
    (s.assertTickClr).lookup = s.lookup ∧ (s.assertTickClr).mem = s.mem ∧ (s.assertTickClr).params = s.params ∧
    (s.assertTickClr).stimulus = s.stimulus ∧ (s.assertTickClr).draws = s.draws := by
  and_intros <;> rfl

@[simp] theorem State.setLookup_fields (a : RomAddress) (b : Bool) :
    (s.setLookup a b).state = s.state ∧ (s.setLookup a b).tick = s.tick ∧ (s.setLookup a b).profileI = s.profileI ∧
    (s.setLookup a b).retState = s.retState ∧ (s.setLookup a b).wakeIe = s.wakeIe ∧
    (s.setLookup a b).tickIe = s.tickIe ∧ (s.setLookup a b).blinkIe = s.blinkIe ∧
    (s.setLookup a b).wakeIf = s.wakeIf ∧ (s.setLookup a b).tickIf = s.tickIf ∧
    (s.setLookup a b).blinkIf = s.blinkIf ∧ (s.setLookup a b).tickRun = s.tickRun ∧
    (s.setLookup a b).blinkRun = s.blinkRun ∧ (s.setLookup a b).dly = s.dly ∧ (s.setLookup a b).motorOn = s.motorOn ∧
    (s.setLookup a b).led = s.led ∧ (s.setLookup a b).wait = s.wait ∧ (s.setLookup a b).tickClr = s.tickClr ∧
    (s.setLookup a b).lookup = some (a, b) ∧ (s.setLookup a b).mem = s.mem ∧ (s.setLookup a b).params = s.params ∧
    (s.setLookup a b).stimulus = s.stimulus ∧ (s.setLookup a b).draws = s.draws := by
  and_intros <;> rfl

@[simp] theorem State.advanceDraws_fields :
    (s.advanceDraws).state = s.state ∧ (s.advanceDraws).tick = s.tick ∧ (s.advanceDraws).profileI = s.profileI ∧
    (s.advanceDraws).retState = s.retState ∧ (s.advanceDraws).wakeIe = s.wakeIe ∧
    (s.advanceDraws).tickIe = s.tickIe ∧ (s.advanceDraws).blinkIe = s.blinkIe ∧ (s.advanceDraws).wakeIf = s.wakeIf ∧
    (s.advanceDraws).tickIf = s.tickIf ∧ (s.advanceDraws).blinkIf = s.blinkIf ∧
    (s.advanceDraws).tickRun = s.tickRun ∧ (s.advanceDraws).blinkRun = s.blinkRun ∧ (s.advanceDraws).dly = s.dly ∧
    (s.advanceDraws).motorOn = s.motorOn ∧ (s.advanceDraws).led = s.led ∧ (s.advanceDraws).wait = s.wait ∧
    (s.advanceDraws).tickClr = s.tickClr ∧ (s.advanceDraws).lookup = s.lookup ∧ (s.advanceDraws).mem = s.mem ∧
    (s.advanceDraws).params = s.params ∧ (s.advanceDraws).stimulus = s.stimulus ∧
    (s.advanceDraws).draws = s.draws + 1 := by
  and_intros <;> rfl

@[simp] theorem State.enter_fields (rest : List Turn) :
    (s.enter rest).state = s.state ∧ (s.enter rest).tick = s.tick ∧ (s.enter rest).profileI = s.profileI ∧
    (s.enter rest).retState = s.retState ∧ (s.enter rest).wakeIe = s.wakeIe ∧ (s.enter rest).tickIe = s.tickIe ∧
    (s.enter rest).blinkIe = s.blinkIe ∧ (s.enter rest).wakeIf = s.wakeIf ∧ (s.enter rest).tickIf = s.tickIf ∧
    (s.enter rest).blinkIf = s.blinkIf ∧ (s.enter rest).tickRun = s.tickRun ∧ (s.enter rest).blinkRun = s.blinkRun ∧
    (s.enter rest).dly = s.dly ∧ (s.enter rest).motorOn = s.motorOn ∧ (s.enter rest).led = s.led ∧
    (s.enter rest).wait = s.wait ∧ (s.enter rest).tickClr = false ∧ (s.enter rest).lookup = none ∧
    (s.enter rest).mem = s.mem ∧ (s.enter rest).params = s.params ∧ (s.enter rest).stimulus = rest ∧
    (s.enter rest).draws = s.draws + 1 := by
  and_intros <;> rfl

end Sys2Proof.Machine
end

