-- ==== Sys2Proof/Laws/Flags.lean ====
section
/-! SUPPORT. What the request vector and the derived flags say (10_state.md rules R16 to R21). -/

namespace Sys2Proof.Machine

variable (s : State)

/-- The bits of `irq` are the three requests. -/
theorem State.irq_bits :
    s.irq.getLsbD 0 = s.wakeRequest ∧ s.irq.getLsbD 1 = s.tickRequest ∧ s.irq.getLsbD 2 = s.blinkRequest := by
  unfold State.irq
  cases s.wakeRequest <;> cases s.tickRequest <;> cases s.blinkRequest <;> decide

theorem State.irqPending_iff_irq_ne_zero : s.irqPending = true ↔ s.irq ≠ 0#3 := by
  unfold State.irqPending State.irq
  cases s.wakeRequest <;> cases s.tickRequest <;> cases s.blinkRequest <;> decide

theorem State.irqPending_eq_false_iff :
    s.irqPending = false ↔ s.wakeRequest = false ∧ s.tickRequest = false ∧ s.blinkRequest = false := by
  simp [State.irqPending, and_assoc]

theorem State.atRest_iff : s.atRest = true ↔ s.irqPending = false ∧ s.wait ≠ .none := by
  simp [State.atRest]

/-- The start of a transition changes no flag, so no request. -/
@[simp] theorem State.enter_requests (rest : List Turn) :
    (s.enter rest).wakeRequest = s.wakeRequest ∧ (s.enter rest).tickRequest = s.tickRequest ∧
    (s.enter rest).blinkRequest = s.blinkRequest ∧ (s.enter rest).irqPending = s.irqPending := by
  and_intros <;> rfl

end Sys2Proof.Machine
end

