-- ==== Sys2Proof/Laws/Ops.lean ====
section
/-! SUPPORT. What the shared operations do: interrupt entry and return, and the ROM's canonical form. -/

namespace Sys2Proof.Machine

/-! ## Interrupt entry and return -/

@[simp] theorem beginService_parts (s : State) : (beginService s).1 = s ∧ (beginService s).2 = false := ⟨rfl, rfl⟩

@[simp] theorem requestState_parts (target : StateCode) (own : Wait) (r : State × Bool) :
    (requestState target own r).1 = r.1.setState target ∧ (requestState target own r).2 = (r.2 || decide (r.1.wait = own)) :=
  ⟨rfl, rfl⟩

/-- The end of a dispatch writes `wait` and nothing else. -/
theorem endService_eq (r : State × Bool) : endService r = { r.1 with wait := if r.2 then .none else r.1.wait } := by
  unfold endService
  split <;> rfl

/-! ## The ROM -/

theorem Memory.read_nil (a : Nat) : Memory.read [] a = romDefault a := rfl

theorem Memory.wfFrom_weaken {lo hi : Nat} (h : lo ≤ hi) {m : Memory} (hw : Memory.wfFrom hi m = true) :
    Memory.wfFrom lo m = true := by
  cases m with
  | nil => rfl
  | cons c m =>
    obtain ⟨k, v⟩ := c
    simp only [Memory.wfFrom, Bool.and_eq_true, decide_eq_true_eq] at hw ⊢
    exact ⟨⟨⟨by omega, hw.1.1.2⟩, hw.1.2⟩, hw.2⟩

/-- Below a canonical list's first address every byte is unlisted. -/
theorem Memory.read_below {m : Memory} {lo a : Nat} (hw : Memory.wfFrom lo m = true) (ha : a < lo) :
    m.read a = romDefault a := by
  induction m generalizing lo with
  | nil => rfl
  | cons c m ih =>
    obtain ⟨k, v⟩ := c
    simp only [Memory.wfFrom, Bool.and_eq_true, decide_eq_true_eq] at hw
    rw [Memory.read, if_neg (by omega)]
    exact ih hw.2 (by omega)

theorem Memory.read_place_same {m : Memory} {lo : Nat} (hw : Memory.wfFrom lo m = true) (a : Nat) (v : Byte) :
    (m.place a v).read a = v := by
  induction m generalizing lo with
  | nil => by_cases h : v = romDefault a <;> simp [Memory.place, Memory.read, h]
  | cons c m ih =>
    obtain ⟨k, u⟩ := c
    simp only [Memory.wfFrom, Bool.and_eq_true, decide_eq_true_eq] at hw
    simp only [Memory.place]
    split_ifs with h1 h2 h3 h4
    · rw [Memory.read, if_neg (by omega), Memory.read_below hw.2 (by omega), h2]
    · simp [Memory.read]
    · rw [Memory.read_below hw.2 (by omega), h4]
    · simp [Memory.read]
    · rw [Memory.read, if_neg (by omega)]
      exact ih hw.2

theorem Memory.read_place_other (m : Memory) {a b : Nat} (hab : b ≠ a) (v : Byte) : (m.place a v).read b = m.read b := by
  induction m with
  | nil => by_cases h : v = romDefault a <;> simp [Memory.place, Memory.read, h, hab.symm]
  | cons c m ih =>
    obtain ⟨k, u⟩ := c
    simp only [Memory.place]
    split_ifs with h1 h2 h3 h4
    · rfl
    · simp [Memory.read, hab.symm]
    · rw [Memory.read, if_neg (by omega)]
    · simp [Memory.read, hab.symm, h3 ▸ hab.symm]
    · simp only [Memory.read, ih]

theorem Memory.wfFrom_place {m : Memory} {lo a : Nat} (hw : Memory.wfFrom lo m = true) (hlo : lo ≤ a) (ha : a < 64)
    (v : Byte) : Memory.wfFrom lo (m.place a v) = true := by
  induction m generalizing lo with
  | nil => by_cases h : v = romDefault a <;> simp [Memory.place, Memory.wfFrom, h, hlo, ha]
  | cons c m ih =>
    obtain ⟨k, u⟩ := c
    have hw' := hw
    simp only [Memory.wfFrom, Bool.and_eq_true, decide_eq_true_eq] at hw
    simp only [Memory.place]
    split_ifs with h1 h2 h3 h4
    · exact hw'
    · simp only [Memory.wfFrom, Bool.and_eq_true, decide_eq_true_eq]
      exact ⟨⟨⟨hlo, ha⟩, h2⟩, ⟨⟨by omega, hw.1.1.2⟩, hw.1.2⟩, hw.2⟩
    · exact Memory.wfFrom_weaken (by omega) hw.2
    · simp only [Memory.wfFrom, Bool.and_eq_true, decide_eq_true_eq]
      exact ⟨⟨⟨hlo, ha⟩, h4⟩, h3 ▸ hw.2⟩
    · simp only [Memory.wfFrom, Bool.and_eq_true, decide_eq_true_eq]
      exact ⟨hw.1, ih hw.2 (by omega)⟩

/-- Placing a byte keeps the canonical form; no operation of the block touches the ROM at all. -/
theorem Memory.wf_place {m : Memory} {a : Nat} (hw : m.wf = true) (ha : a < 64) (v : Byte) : (m.place a v).wf = true :=
  Memory.wfFrom_place hw (Nat.zero_le a) ha v

theorem reset_mem_wf : State.reset.mem.wf = true := rfl

end Sys2Proof.Machine
end

