-- ==== Sys2Proof/Laws/Dispatcher.lean ====
section
/-! SUPPORT. What each service does to the state and to the request to resume (40_dispatcher.md rules R84 to R87). -/

namespace Sys2Proof.Machine

theorem serveWake_eq (s : State) (b : Bool) :
    serveWake (s, b) = ({ s with wakeIf := false, wakeIe := false, state := 2#3 }, b || decide (s.wait = .wake)) := rfl

theorem serveTick_eq (s : State) (b : Bool) :
    serveTick (s, b) = ({ s with tickIf := false, tickClr := true, state := 3#3 }, b || decide (s.wait = .tick)) := rfl

theorem serveBlink_eq (s : State) (b : Bool) :
    serveBlink (s, b) = ({ s with blinkIf := false, state := if s.wait = .blink then s.retState else s.state },
      b || decide (s.wait = .blink)) := by
  unfold serveBlink
  by_cases h : s.wait = .blink <;> simp [h, requestState, State.setBlinkIf, State.setState]

/-- DISPATCH, the selection read off the three requests. -/
theorem dispatch_eq (s : State) :
    dispatch s = endService
      (let r1 := if s.wakeRequest then serveWake (s, false) else (s, false)
       let r2 := if s.tickRequest then serveTick r1 else r1
       if s.blinkRequest then serveBlink r2 else r2) := by
  obtain ⟨hw, ht, hb⟩ := s.irq_bits
  simp only [dispatch, beginService, hw, ht, hb]

end Sys2Proof.Machine
end

