-- ==== Sys2Proof/Laws/PerInstr.lean ====
section
/-! SUPPORT. A statement about each operation as syntax, one lemma per constructor. -/

namespace Sys2Proof

/-- The four formats by name (30_encoding.md rule R60). -/
inductive FormatName where
  | s
  | i
  | v
  | a
  deriving DecidableEq, Repr

/-- The format of a coded word. -/
def Coded.formatName : Coded → FormatName
  | .formatS _ => .s
  | .formatI _ => .i
  | .formatV _ => .v
  | .formatA _ => .a

/-- The format of each operation's family (30_encoding.md rule R60). -/
def Instr.formatName : Instr → FormatName
  | .settleDone _ => .s
  | .gotosleep => .s
  | .sleep => .s
  | .wakeup => .s
  | .tock => .s
  | .lightsleep => .s
  | .recoverFive => .s
  | .recoverHigh _ => .s
  | .recoverFour => .s
  | .irqWake => .i
  | .irqTick => .i
  | .irqBlink => .i
  | .evWakeEdge => .v
  | .evTickOvf => .v
  | .evBlinkOvf => .v
  | .evDlyDone => .v
  | .evReset => .v
  | .pbit _ _ => .a

namespace Laws.EncodingFormat

/-- The operation's word has the format of its family (30_encoding.md rules R60, R66). -/
def Statement (i : Instr) : Prop := (encode i).formatName = i.formatName

theorem settleDone (code : StateCode) : Statement (.settleDone code) := rfl

theorem gotosleep : Statement .gotosleep := rfl

theorem sleep : Statement .sleep := rfl

theorem wakeup : Statement .wakeup := rfl

theorem tock : Statement .tock := rfl

theorem lightsleep : Statement .lightsleep := rfl

theorem recoverFive : Statement .recoverFive := rfl

theorem recoverHigh (low : BitVec 1) : Statement (.recoverHigh low) := rfl

theorem recoverFour : Statement .recoverFour := rfl

theorem irqWake : Statement .irqWake := rfl

theorem irqTick : Statement .irqTick := rfl

theorem irqBlink : Statement .irqBlink := rfl

theorem evWakeEdge : Statement .evWakeEdge := rfl

theorem evTickOvf : Statement .evTickOvf := rfl

theorem evBlinkOvf : Statement .evBlinkOvf := rfl

theorem evDlyDone : Statement .evDlyDone := rfl

theorem evReset : Statement .evReset := rfl

theorem pbit (p : ProfileIndex) (t : TickIndex) : Statement (.pbit p t) := rfl

end Laws.EncodingFormat

end Sys2Proof
end

