-- ==== Sys2Proof/Laws/Step.lean ====
section
/-! SUPPORT. What a step can do, said once: which move is due, and what a step that answers a next state has done. -/

namespace Sys2Proof.Machine

variable {s t : State}

/-! ## The move that is due -/

theorem State.nextMove_of_due {c : EventCode} {i : Instr} (hd : s.dueEvent = some c)
    (hi : decodeV s.params.hasBlink c = .ok i) : s.nextMove = .operation i := by
  simp [State.nextMove, hd, State.eventMove, hi]

theorem State.nextMove_of_malformed {c : EventCode} {r : Reject} (hd : s.dueEvent = some c)
    (hr : decodeV s.params.hasBlink c = .error r) : s.nextMove = .malformed c := by
  simp [State.nextMove, hd, State.eventMove, hr]

theorem State.nextMove_of_request (hd : s.dueEvent = none) (hq : s.irqPending = true) : s.nextMove = .dispatch := by
  simp [State.nextMove, hd, State.blockMove, hq]

theorem State.nextMove_of_running (hd : s.dueEvent = none) (hq : s.irqPending = false) (hw : s.wait = .none) :
    s.nextMove = .operation (decodeS s.params.hasBlink s.decodeWord) := by
  simp [State.nextMove, hd, State.blockMove, hq, hw]

theorem State.nextMove_of_atRest (hd : s.dueEvent = none) (hr : s.atRest = true) : s.nextMove = .idle := by
  obtain ⟨hq, hw⟩ := s.atRest_iff.mp hr
  simp [State.nextMove, hd, State.blockMove, hq, hw]

/-- Everything that can be due. -/
theorem State.nextMove_cases (s : State) :
    (∃ c i, s.dueEvent = some c ∧ decodeV s.params.hasBlink c = .ok i ∧ s.nextMove = .operation i) ∨
    (∃ c r, s.dueEvent = some c ∧ decodeV s.params.hasBlink c = .error r ∧ s.nextMove = .malformed c) ∨
    (s.dueEvent = none ∧ s.irqPending = true ∧ s.nextMove = .dispatch) ∨
    (s.dueEvent = none ∧ s.irqPending = false ∧ s.wait = .none ∧
      s.nextMove = .operation (decodeS s.params.hasBlink s.decodeWord)) ∨
    (s.dueEvent = none ∧ s.atRest = true ∧ s.nextMove = .idle) := by
  rcases hd : s.dueEvent with _ | c
  · cases hq : s.irqPending
    · by_cases hw : s.wait = .none
      · exact .inr (.inr (.inr (.inl ⟨rfl, rfl, hw, State.nextMove_of_running hd hq hw⟩)))
      · have hr := s.atRest_iff.mpr ⟨hq, hw⟩
        exact .inr (.inr (.inr (.inr ⟨rfl, hr, State.nextMove_of_atRest hd hr⟩)))
    · exact .inr (.inr (.inl ⟨rfl, rfl, State.nextMove_of_request hd hq⟩))
  · rcases hi : decodeV s.params.hasBlink c with r | i
    · exact .inr (.inl ⟨c, r, rfl, hi, State.nextMove_of_malformed hd hi⟩)
    · exact .inl ⟨c, i, rfl, hi, State.nextMove_of_due hd hi⟩

/-! ## The step -/

theorem step_of_operation {i : Instr} (h : s.nextMove = .operation i) : step s = exec i (s.enter s.restStimulus) := by
  simp [step, h]

theorem step_of_dispatch (h : s.nextMove = .dispatch) : step s = .next (dispatch (s.enter s.restStimulus)) := by
  simp [step, h]

theorem step_of_idle (h : s.nextMove = .idle) : step s = .next (s.enter s.restStimulus) := by
  simp [step, h]

theorem step_of_malformed {c : EventCode} (h : s.nextMove = .malformed c) : step s = .refused (.malformedStimulus c) := by
  simp [step, h]

/-- Everything a step that answers a next state can have done. -/
theorem step_next_cases (h : step s = .next t) :
    (∃ i, s.nextMove = .operation i ∧ exec i (s.enter s.restStimulus) = .next t) ∨
    (s.nextMove = .dispatch ∧ t = dispatch (s.enter s.restStimulus)) ∨
    (s.nextMove = .idle ∧ t = s.enter s.restStimulus) := by
  rcases hm : s.nextMove with i | _ | _ | c
  · exact .inl ⟨i, rfl, by rw [← step_of_operation hm, h]⟩
  · exact .inr (.inl ⟨rfl, by simpa [step_of_dispatch hm, eq_comm] using h⟩)
  · exact .inr (.inr ⟨rfl, by simpa [step_of_idle hm, eq_comm] using h⟩)
  · simp [step_of_malformed hm] at h

end Sys2Proof.Machine
end

