-- ==== Sys2Proof/Laws/Response.lean ====
section
/-! SUPPORT. What a response holds: what a step performs in each situation, and everything a recorded run can be. -/

namespace Sys2Proof.Machine

variable {s t u : State} {n : Nat} {log : List Entry}

/-! ## What a step performs -/

theorem State.performs_of_due {c : EventCode} {i : Instr} (hd : s.dueEvent = some c)
    (hi : decodeV s.params.hasBlink c = .ok i) : s.performs = .event i := by
  simp [State.performs, hd, hi]

theorem State.performs_of_request (hd : s.dueEvent = none) (hq : s.irqPending = true) :
    s.performs = .dispatch (decodeServices s.params.hasBlink s.irq) := by
  simp [State.performs, hd, State.blockPerforms, State.blockMove, hq]

theorem State.performs_of_running (hd : s.dueEvent = none) (hq : s.irqPending = false) (hw : s.wait = .none) :
    s.performs = .operation (decodeS s.params.hasBlink s.decodeWord) := by
  simp [State.performs, hd, State.blockPerforms, State.blockMove, hq, hw]

/-! ## The events in a log, and the response without them -/

@[simp] theorem eventsOf_nil : eventsOf [] = [] := rfl
@[simp] theorem eventsOf_event (i : Instr) (o : Outputs) : eventsOf (⟨.event i, o⟩ :: log) = i :: eventsOf log := rfl
@[simp] theorem eventsOf_operation (i : Instr) (o : Outputs) : eventsOf (⟨.operation i, o⟩ :: log) = eventsOf log := rfl
@[simp] theorem eventsOf_dispatch (l : List Instr) (o : Outputs) : eventsOf (⟨.dispatch l, o⟩ :: log) = eventsOf log := rfl
@[simp] theorem eventsOf_nothing (o : Outputs) : eventsOf (⟨.nothing, o⟩ :: log) = eventsOf log := rfl
@[simp] theorem responseOf_nil : responseOf [] = [] := rfl
@[simp] theorem responseOf_event (i : Instr) (o : Outputs) : responseOf (⟨.event i, o⟩ :: log) = responseOf log := rfl
@[simp] theorem responseOf_operation (i : Instr) (o : Outputs) :
    responseOf (⟨.operation i, o⟩ :: log) = ⟨.operation i, o⟩ :: responseOf log := rfl
@[simp] theorem responseOf_dispatch (l : List Instr) (o : Outputs) :
    responseOf (⟨.dispatch l, o⟩ :: log) = ⟨.dispatch l, o⟩ :: responseOf log := rfl
@[simp] theorem responseOf_nothing (o : Outputs) : responseOf (⟨.nothing, o⟩ :: log) = responseOf log := rfl

/-! ## Recording -/

theorem recordToRest_of_rest (n : Nat) (hs : s.stimulus = []) (hr : s.atRest = true) :
    recordToRest n s = .next ([], s) := by
  cases n <;> simp [recordToRest, hs, hr]

theorem recordToRest_of_step (hn : ¬(s.stimulus = [] ∧ s.atRest = true)) (hs : step s = .next t)
    (ht : recordToRest n t = .next (log, u)) : recordToRest (n + 1) s = .next (⟨s.performs, t.outputs⟩ :: log, u) := by
  simp [recordToRest, hn, hs, ht]

/-- Everything a recorded run that answers can be: over, or one step and a recorded run after it. -/
theorem recordToRest_cases (h : recordToRest n s = .next (log, u)) :
    (log = [] ∧ u = s) ∨
    ∃ m t rest, n = m + 1 ∧ step s = .next t ∧ recordToRest m t = .next (rest, u) ∧ log = ⟨s.performs, t.outputs⟩ :: rest := by
  cases n with
  | zero => exact .inl (by simpa [recordToRest, eq_comm] using h)
  | succ m =>
    simp only [recordToRest] at h
    split at h
    · exact .inl (by simpa [eq_comm] using h)
    · rcases hs : step s with t | r | r <;> simp only [hs] at h
      · rcases hr : recordToRest m t with ⟨rest, v⟩ | r | r <;> simp only [hr] at h
        · simp only [Host.Outcome.next.injEq, Prod.mk.injEq] at h
          obtain ⟨rfl, rfl⟩ := h
          exact .inr ⟨m, t, rest, rfl, rfl, hr, rfl⟩
        · cases h
        · cases h
      · cases h
      · cases h

/-- A recorded run is a run of as many steps as its log has entries, and each entry says what its step performed and left. -/
theorem recordToRest_log (h : recordToRest n s = .next (log, u)) :
    log.length ≤ n ∧ steps log.length s = .next u ∧
    ∀ k e, log[k]? = some e → ∃ v w, steps k s = .next v ∧ step v = .next w ∧ e = ⟨v.performs, w.outputs⟩ := by
  induction log generalizing n s with
  | nil =>
    obtain ⟨-, rfl⟩ | ⟨m, t, rest, -, -, -, hl⟩ := recordToRest_cases h
    · simp [steps]
    · cases hl
  | cons a log ih =>
    obtain ⟨hl, -⟩ | ⟨m, t, rest, rfl, hs, hr, hl⟩ := recordToRest_cases h
    · cases hl
    · cases hl
      obtain ⟨h1, h2, h3⟩ := ih hr
      refine ⟨by simpa using h1, by simpa [steps, hs] using h2, fun k e hk => ?_⟩
      cases k with
      | zero => exact ⟨s, t, rfl, hs, by simpa [eq_comm] using hk⟩
      | succ k =>
        obtain ⟨v, w, hv, hw, he⟩ := h3 k e (by simpa using hk)
        exact ⟨v, w, by simpa [steps, hs] using hv, hw, he⟩

theorem response_of_respond {codes : List EventCode} (h : respond codes s = .next (log, u)) :
    response codes s = .next (responseOf log) := by
  simp [response, h]

/-! ## Malformed traces -/

theorem firstUnassigned_eq_none {b : Bool} {codes : List EventCode} :
    firstUnassigned b codes = none ↔ ∀ c ∈ codes, ∃ i, decodeV b c = .ok i := by
  induction codes with
  | nil => simp [firstUnassigned]
  | cons c codes ih => rcases hc : decodeV b c <;> simp [firstUnassigned, hc, ih]

theorem firstUnassigned_mem {b : Bool} {codes : List EventCode} {c : EventCode} (h : firstUnassigned b codes = some c) :
    c ∈ codes ∧ ∃ r, decodeV b c = .error r := by
  induction codes with
  | nil => simp [firstUnassigned] at h
  | cons d codes ih =>
    rcases hd : decodeV b d with r | i <;> simp only [firstUnassigned, hd] at h
    · cases h
      exact ⟨List.mem_cons_self, r, hd⟩
    · obtain ⟨hm, hr⟩ := ih h
      exact ⟨List.mem_cons_of_mem d hm, hr⟩

end Sys2Proof.Machine
end

