-- ==== Sys2Proof/Laws/Sequencer.lean ====
section
/-! SUPPORT. The shared parts of the sequencer's operations and of reset, each as one record update (41_sequencer.md rules
R101 to R106, 43_settling_delay.md rules R130, R131, 70_reset_and_hazards.md rule R170). -/

namespace Sys2Proof.Machine

variable (s : State)

theorem State.startDelay_eq : s.startDelay = { s with dly := true, led := .level s.params.delayLed, wait := .delay } := rfl

theorem State.allOff_eq :
    s.allOff = { s with tickRun := false, blinkRun := false, motorOn := false, led := .level false } := by
  simp [State.allOff, State.setTickRun, State.setBlinkRun, State.setMotorOn, State.setLed]

theorem State.armWakeOnly_eq :
    s.armWakeOnly = { s with wakeIe := true, tickIe := false, blinkIe := false,
                             wakeIf := false, tickIf := false, blinkIf := false } := by
  simp [State.armWakeOnly, State.setWakeIe, State.setTickIe, State.setBlinkIe, State.setWakeIf, State.setTickIf,
    State.setBlinkIf]

theorem State.armTick_eq :
    s.armTick = { s with tickIf := false, tickRun := true, tickClr := true, tickIe := true } := rfl

theorem State.armBlink_eq :
    s.armBlink = { s with blinkIf := false, blinkRun := s.params.hasBlink, blinkIe := s.params.hasBlink } := by
  simp [State.armBlink, State.setBlinkIf, State.setBlinkRun, State.setBlinkIe]

theorem State.finishPlayback_eq : s.finishPlayback = { s with profileI := s.profileI + 1#3, state := 0#3 } := rfl

theorem State.playTick_eq :
    s.playTick = { s with lookup := some (romAddress s.profileI s.tickIndex, romRead s.mem s.profileI s.tickIndex),
                          motorOn := romRead s.mem s.profileI s.tickIndex, tick := s.tick + 1#7, wait := .tick } := rfl

theorem State.recover_eq : s.recover = { s with state := 0#3 } := rfl

theorem resetGiven_eq :
    resetGiven s = { s with state := 0#3, profileI := 0#3, retState := 0#3, wakeIe := false, tickIe := false,
                            blinkIe := false, dly := false, motorOn := false, led := .level false, wait := .none } := by
  simp [resetGiven, codeGoToSleep, State.setState, State.setProfileI, State.setRetState, State.setWakeIe, State.setTickIe,
    State.setBlinkIe, State.setDly, State.setMotorOn, State.setLed, State.setWait]

theorem resetDrawn_eq :
    resetDrawn s = { s with tick := Config.resetTick s.draws, wakeIf := Config.resetWakeIf s.draws,
                            tickIf := Config.resetTickIf s.draws,
                            blinkIf := Config.resetBlinkIf s.draws && s.params.hasBlink,
                            tickRun := Config.resetTickRun s.draws,
                            blinkRun := Config.resetBlinkRun s.draws && s.params.hasBlink, draws := s.draws + 1 } := by
  simp [resetDrawn, State.setTick, State.setWakeIf, State.setTickIf, State.setBlinkIf, State.setTickRun, State.setBlinkRun,
    State.advanceDraws]

/-- The tick operand of a stepping TOCK is the whole of `tick` (30_encoding.md rule R65). -/
theorem State.tickIndex_toNat (h : s.tick.toNat < 64) : s.tickIndex.toNat = s.tick.toNat := by
  simp [State.tickIndex]; omega

end Sys2Proof.Machine
end

