-- ==== Sys2Proof/Tests/Slice0.lean ====
section
/-! SUPPORT. Tests: the encodings of 30_encoding.md written out by hand, the vectors of 95_test_vectors.md, and for every
statement with hypotheses a state that meets them. -/

namespace Sys2Proof.Tests

open Sys2Proof.Machine

/-! ## Helpers -/

/-- A row of 95_test_vectors.md section 1: `state tick profile_i wait IE IF TMR motor_on led`. -/
def row (state : StateCode) (tick : TickCount) (p : ProfileIndex) (w : Wait) (ie pending tmr : BitVec 3) (motor : Bool)
    (led : Indicator) (blink : Bool := false) (ret : StateCode := 0#3) : State where
  state := state
  tick := tick
  profileI := p
  retState := ret
  wakeIe := ie.getLsbD 0
  tickIe := ie.getLsbD 1
  blinkIe := ie.getLsbD 2
  wakeIf := pending.getLsbD 0
  tickIf := pending.getLsbD 1
  blinkIf := pending.getLsbD 2
  tickRun := tmr.getLsbD 0
  blinkRun := tmr.getLsbD 1
  dly := tmr.getLsbD 2
  motorOn := motor
  led := led
  wait := w
  tickClr := false
  lookup := none
  mem := []
  params := ⟨blink, false⟩
  stimulus := []
  draws := 0

/-- `led = 0`. -/
def dark : Indicator := .level false

/-- The eight bytes of a profile word in the byte view of 20_memory.md rule R43. -/
def bytesOf (p : Nat) (w : ProfileWord) : Memory :=
  (List.range 8).map fun b => (8 * p + b, w.extractLsb' (8 * b) 8)

/-- The fixture ROM TROM of 95_test_vectors.md section 1. -/
def trom : Memory :=
  bytesOf 0 0xFFFFFFFFFFFFFFFF#64 ++ bytesOf 1 0x0000000000000001#64 ++ bytesOf 2 0x8000000000000000#64 ++
    bytesOf 3 0xAAAAAAAAAAAAAAAA#64 ++ bytesOf 4 0x5555555555555555#64 ++ bytesOf 5 0x00000000FFFFFFFF#64 ++
    bytesOf 6 0x0123456789ABCDEF#64 ++ bytesOf 7 0x0000000000000000#64

/-- The state with TROM as its ROM. -/
def withTrom (s : State) : State := { s with mem := trom }

/-- The operation answers this next state. -/
def yields (o : Host.Outcome State Fault Refusal) (t : State) : Bool :=
  match o with
  | .next u => decide (u = t)
  | .fault _ => false
  | .refused _ => false

/-- The operation answers a next state with this property. -/
def yieldsSome (o : Host.Outcome State Fault Refusal) (prop : State → Bool) : Bool :=
  match o with
  | .next u => prop u
  | .fault _ => false
  | .refused _ => false

/-- The operation is refused for this reason. -/
def refuses (o : Host.Outcome State Fault Refusal) (r : Refusal) : Bool :=
  match o with
  | .next _ => false
  | .fault _ => false
  | .refused q => decide (q = r)

/-- The state that a step answers, or the state itself where it stops. -/
def after (s : State) : State :=
  match step s with
  | .next t => t
  | .fault _ => s
  | .refused _ => s

/-! ## Well-formedness: an ill-formed term for each check (30_encoding.md rules R60, R66) -/

theorem test_lightsleep_needs_blink : Instr.lightsleep.wellFormed false = false := by decide
theorem test_irqBlink_needs_blink : Instr.irqBlink.wellFormed false = false := by decide
theorem test_evBlinkOvf_needs_blink : Instr.evBlinkOvf.wellFormed false = false := by decide
theorem test_recoverFour_needs_no_blink : Instr.recoverFour.wellFormed true = false := by decide
theorem test_wellFormed_accepts : Instr.lightsleep.wellFormed true = true ∧ Instr.recoverFour.wellFormed false = true ∧
    (Instr.pbit 7#3 63#6).wellFormed false = true := by decide

/-! ## Decoding: the words of 30_encoding.md rule R66 written out bit by bit -/

theorem test_decode_settleDone : decodeS false 0b1000#4 = .settleDone 0b000#3 ∧ decodeS true 0b1111#4 = .settleDone 0b111#3 := by
  decide
theorem test_decode_gotosleep : decodeS false 0b0000#4 = .gotosleep := by decide
theorem test_decode_sleep : decodeS false 0b0001#4 = .sleep := by decide
theorem test_decode_wakeup : decodeS false 0b0010#4 = .wakeup := by decide
theorem test_decode_tock : decodeS true 0b0011#4 = .tock := by decide
theorem test_decode_lightsleep : decodeS true 0b0100#4 = .lightsleep := by decide
theorem test_decode_recover : decodeS true 0b0101#4 = .recoverFive ∧ decodeS true 0b0110#4 = .recoverHigh 0#1 ∧
    decodeS true 0b0111#4 = .recoverHigh 1#1 ∧ decodeS false 0b0100#4 = .recoverFour := by decide
theorem test_decode_services : decodeI true 0b001#3 = .ok .irqWake ∧ decodeI true 0b010#3 = .ok .irqTick ∧
    decodeI true 0b100#3 = .ok .irqBlink := by decide
theorem test_decode_service_set : decodeServices true 0b111#3 = [.irqWake, .irqTick, .irqBlink] ∧
    decodeServices false 0b110#3 = [.irqTick] ∧ decodeServices true 0b000#3 = [] := by decide
theorem test_decodeI_rejects : decodeI true 0b000#3 = .error .noService ∧ decodeI false 0b100#3 = .error .noService ∧
    decodeI true 0b011#3 = .error (.severalServices 0b011#3) := by decide
theorem test_decode_events : decodeV true 0b001#3 = .ok .evWakeEdge ∧ decodeV true 0b010#3 = .ok .evTickOvf ∧
    decodeV true 0b011#3 = .ok .evBlinkOvf ∧ decodeV true 0b100#3 = .ok .evDlyDone ∧ decodeV true 0b111#3 = .ok .evReset := by
  decide
theorem test_decodeV_rejects : decodeV true 0b000#3 = .error (.unassignedEvent 0#3) ∧
    decodeV true 0b101#3 = .error (.unassignedEvent 5#3) ∧ decodeV true 0b110#3 = .error (.unassignedEvent 6#3) ∧
    decodeV false 0b011#3 = .error (.unassignedEvent 3#3) := by decide
/-- 95_test_vectors.md A12, A20. -/
theorem test_decode_pbit : decodeA 0b011111111#9 = .pbit 3#3 63#6 ∧ decodeA 0b110001001#9 = .pbit 6#3 9#6 := by decide

/-! ## Table words (notes/assumptions/10.md) and the placing of a word -/

theorem test_decodeTableWord : decodeTableWord 8 3 = some .tock ∧ decodeTableWord 4 8 = some (.settleDone 0#3) ∧
    decodeTableWord 3 7 = some .evReset ∧ decodeTableWord 16 0x189 = some (.pbit 6#3 9#6) ∧ decodeTableWord 3 0 = none ∧
    decodeTableWord 8 16 = none := by decide
theorem test_placed_sleep_runs : yieldsSome (step (State.reset.withFetchWord 8 1)) (fun t => decide (t.wait = .wake)) = true := by
  decide
theorem test_placed_lightsleep_runs :
    yieldsSome (step (State.reset.withFetchWord 8 4)) (fun t => decide (t.wait = .blink)) = true := by decide
theorem test_placed_settleDone_runs :
    yieldsSome (step (State.reset.withFetchWord 8 8)) (fun t => decide (t.state = 1#3) && t.wakeIe) = true := by decide
theorem test_placed_event_runs : yieldsSome (step (State.reset.withFetchWord 3 1)) (fun t => t.wakeIf) = true := by decide
theorem test_placed_lookup_runs :
    yieldsSome (step (State.reset.withFetchWord 16 0x189)) (fun t => (t.lookup.map Prod.fst) == some 0x189#9) = true := by decide

/-! ## Events (95_test_vectors.md section 3.1) -/

/-- E2: not armed, the flag latches and nothing is requested. -/
theorem test_E2 : yields (exec .evWakeEdge (row 0 64 1 .delay 0b010 0b000 0b100 false dark))
    (row 0 64 1 .delay 0b010 0b001 0b100 false dark) = true ∧
    (row 0 64 1 .delay 0b010 0b001 0b100 false dark).irq = 0b000#3 := by decide
/-- E3: the flag is already set. -/
theorem test_E3 : yields (exec .evWakeEdge (row 3 2 0 .tick 0b010 0b001 0b001 true .unspecified))
    (row 3 2 0 .tick 0b010 0b001 0b001 true .unspecified) = true := by decide
/-- E4. -/
theorem test_E4 : yields (exec .evTickOvf (row 3 5 0 .tick 0b010 0b000 0b001 true .unspecified))
    (row 3 5 0 .tick 0b010 0b010 0b001 true .unspecified) = true ∧
    (row 3 5 0 .tick 0b010 0b010 0b001 true .unspecified).irq = 0b010#3 := by decide
/-- E6. -/
theorem test_E6 : yields (exec .evBlinkOvf (row 3 1 0 .tick 0b110 0b000 0b011 true .unspecified true))
    (row 3 1 0 .tick 0b110 0b100 0b011 true .unspecified true) = true ∧
    (row 3 1 0 .tick 0b110 0b100 0b011 true .unspecified true).irq = 0b100#3 := by decide
/-- 30_encoding.md rule R60: EV_BLINK_OVF does not exist without the blink variant. -/
theorem test_evBlinkOvf_absent : refuses (exec .evBlinkOvf (row 3 1 0 .tick 0b010 0b000 0b001 true .unspecified))
    (.absentWithoutBlink "EV_BLINK_OVF") = true := by decide
/-- E7. -/
theorem test_E7 : yields (exec .evDlyDone (row 0 0 0 .delay 0b000 0b000 0b100 false dark))
    (row 0 0 0 .none 0b000 0b000 0b100 false dark) = true ∧
    (row 0 0 0 .none 0b000 0b000 0b100 false dark).decodeWord = 0x8#4 := by decide
/-- E8: spurious. -/
theorem test_E8 : yields (exec .evDlyDone (row 1 0 0 .wake 0b001 0b010 0b000 false dark))
    (row 1 0 0 .wake 0b001 0b010 0b000 false dark) = true := by decide
/-- E10: what the reset gives. -/
theorem test_E10 : yieldsSome (exec .evReset (row 3 17 5 .tick 0b010 0b000 0b001 true .unspecified))
    (fun t => decide (t.state = 0#3) && decide (t.profileI = 0#3) && decide (t.wait = .none) && decide (t.regIE = 0#3) &&
      !t.dly && !t.motorOn && decide (t.led = dark) && decide (t.retState = 0#3)) = true := by decide

/-! ## Services and dispatch (95_test_vectors.md section 3.2) -/

/-- X1. -/
theorem test_X1 : yields (exec .irqWake (row 1 0 0 .wake 0b001 0b001 0b000 false dark true))
    (row 2 0 0 .none 0b000 0b000 0b000 false dark true) = true := by decide
/-- X9: the wake source is not the designated one. -/
theorem test_X9 : yields (exec .irqWake (row 3 0 0 .tick 0b011 0b001 0b000 false dark true))
    (row 2 0 0 .tick 0b010 0b000 0b000 false dark true) = true := by decide
/-- X5. -/
theorem test_X5 : yields (exec .irqTick (row 3 0 0 .tick 0b010 0b010 0b000 false dark true))
    { row 3 0 0 .none 0b010 0b000 0b000 false dark true with tickClr := true } = true := by decide
/-- X12. -/
theorem test_X12 : yields (exec .irqTick (row 4 0 0 .blink 0b110 0b010 0b000 false dark true 3))
    { row 3 0 0 .blink 0b110 0b000 0b000 false dark true 3 with tickClr := true } = true := by decide
/-- X11. -/
theorem test_X11 : yields (exec .irqBlink (row 4 0 0 .blink 0b110 0b100 0b000 false dark true 3))
    (row 3 0 0 .none 0b110 0b000 0b000 false dark true 3) = true := by decide
/-- X7: outside LightSleep nothing is requested. -/
theorem test_X7 : yields (exec .irqBlink (row 3 0 0 .tick 0b110 0b100 0b000 false dark true))
    (row 3 0 0 .tick 0b110 0b000 0b000 false dark true) = true := by decide
/-- X2: a stale flag with its enable clear is not serviced. -/
theorem test_X2 : dispatch (row 1 0 0 .wake 0b001 0b011 0b000 false dark true) =
    row 2 0 0 .none 0b000 0b010 0b000 false dark true := by decide
/-- X15: three services, `ret_state` has the last word. -/
theorem test_X15 : dispatch (row 4 0 0 .blink 0b111 0b111 0b000 false dark true 2) =
    { row 2 0 0 .none 0b110 0b000 0b000 false dark true 2 with tickClr := true } := by decide
/-- X18: nothing but the delay timer ends the delay. -/
theorem test_X18 : dispatch (row 0 0 0 .delay 0b111 0b111 0b000 false dark true) =
    { row 3 0 0 .delay 0b110 0b000 0b000 false dark true with tickClr := true } := by decide

/-! ## The sequencer (95_test_vectors.md section 3.3) -/

/-- G1, and its note for DELAY_LED = 1. -/
theorem test_G1 : yields (exec .gotosleep (row 0 64 1 .none 0b010 0b000 0b001 true .unspecified))
    (row 0 64 1 .delay 0b010 0b000 0b100 false dark) = true ∧
    yieldsSome (exec .gotosleep { row 0 64 1 .none 0b010 0b000 0b001 true .unspecified with params := ⟨false, true⟩ })
      (fun t => decide (t.led = .level true)) = true := by decide
/-- G2: adverse unspecified reset values. -/
theorem test_G2 : yields (exec .gotosleep (row 0 93 0 .none 0b000 0b111 0b011 false dark))
    (row 0 93 0 .delay 0b000 0b111 0b100 false dark) = true := by decide
/-- D1. -/
theorem test_D1 : yields (exec (.settleDone 0) (row 0 64 1 .none 0b010 0b001 0b100 false dark))
    (row 1 64 1 .none 0b001 0b000 0b000 false dark) = true := by decide
/-- D2: `dly = 1` wins over `state = 3`. -/
theorem test_D2 : yields (step (row 3 64 1 .none 0b110 0b001 0b100 false (.level true)))
    { row 1 64 1 .none 0b001 0b000 0b000 false dark with draws := 1 } = true := by decide
/-- L1, with its note on `pwr`. -/
theorem test_L1 : yields (exec .sleep (row 1 64 1 .none 0b001 0b000 0b000 false dark))
    (row 1 64 1 .wake 0b001 0b000 0b000 false dark) = true ∧
    (row 1 64 1 .wake 0b001 0b000 0b000 false dark).pwr = .deep := by decide
/-- W1. -/
theorem test_W1 : yields (exec .wakeup (row 2 64 1 .none 0b000 0b010 0b000 false dark))
    { row 3 0 1 .none 0b010 0b000 0b001 false .unspecified with tickClr := true } = true := by decide
/-- W2. -/
theorem test_W2 : yields (exec .wakeup (row 2 127 7 .none 0b000 0b110 0b000 false dark true))
    { row 3 0 7 .none 0b110 0b000 0b011 false .unspecified true with tickClr := true } = true := by decide
/-- T3: the last stepping TOCK, at the boundary `tick = 63`. -/
theorem test_T3 : yields (exec .tock (withTrom (row 3 63 2 .none 0b010 0b000 0b001 false .unspecified)))
    { withTrom (row 3 64 2 .tick 0b010 0b000 0b001 true .unspecified) with lookup := some (0x0BF#9, true) } = true := by decide
/-- T5: the final TOCK at the boundary `tick = 64`, and the wrap of `profile_i`. -/
theorem test_T5 : yields (exec .tock (row 3 64 7 .none 0b010 0b000 0b001 false .unspecified))
    (row 0 64 0 .none 0b010 0b000 0b001 false .unspecified) = true := by decide
/-- H1. -/
theorem test_H1 : yields (exec .lightsleep (row 4 2 0 .none 0b110 0b000 0b011 true .unspecified true))
    (row 4 2 0 .blink 0b110 0b000 0b011 true .unspecified true) = true := by decide
/-- 30_encoding.md rule R60: LIGHTSLEEP does not exist without the blink variant. -/
theorem test_lightsleep_absent : refuses (exec .lightsleep (row 4 2 0 .none 0b010 0b000 0b001 true .unspecified))
    (.absentWithoutBlink "LIGHTSLEEP") = true := by decide
/-- K1. -/
theorem test_K1 : yields (step (row 4 6 0 .none 0b010 0b000 0b001 true .unspecified))
    { row 0 6 0 .none 0b010 0b000 0b001 true .unspecified with draws := 1 } = true := by decide
/-- K2. -/
theorem test_K2 : yields (exec .recoverFive (row 5 6 0 .none 0b010 0b000 0b001 true .unspecified))
    (row 0 6 0 .none 0b010 0b000 0b001 true .unspecified) = true := by decide
/-- K4. -/
theorem test_K4 : yields (exec (.recoverHigh 1) (row 7 6 0 .none 0b010 0b000 0b001 true .unspecified))
    (row 0 6 0 .none 0b010 0b000 0b001 true .unspecified) = true := by decide

/-! ## The ROM (95_test_vectors.md sections 1, 3.4) -/

/-- A8, A20, A21, A23: the bits of TROM. -/
theorem test_rom_bits : romRead trom 2 63 = true ∧ romRead trom 6 9 = false ∧ romRead trom 6 56 = true ∧
    romRead trom 6 63 = false := by decide
/-- A20. -/
theorem test_A20 : yieldsSome (exec (.pbit 6 9) (withTrom (row 0 0 0 .none 0b000 0b000 0b000 false dark)))
    (fun t => decide (t.lookup = some (0x189#9, false))) = true := by decide

/-! ## Witnesses: states that meet the hypotheses of the statements -/

/-- Deep sleep, as program P1 leaves it. -/
def asleepRow : State := row 1 64 1 .wake 0b001 0b000 0b000 false dark

/-- Playback suspended after two ticks (program P6, step 5). -/
def waitingRow : State := row 3 2 0 .tick 0b110 0b000 0b011 true .unspecified true

/-- The settling delay with a bounce latched (program P3, step 2). -/
def delayRow : State := row 0 0 0 .delay 0b000 0b001 0b100 false dark

/-- Right after power-on (V-R2). -/
def bootRow : State := row 0 127 0 .none 0b000 0b011 0b001 false dark

/-- Running in Tock, the playback over (T4). -/
def finalRow : State := row 3 64 2 .none 0b010 0b000 0b001 true .unspecified

theorem witness_EncodedOperationDecodesBack : (Instr.pbit 7 63).wellFormed false = true := by decide
theorem witness_DecodedWordEncodesBack : decode true (.formatV 0b011#3) = .ok .evBlinkOvf := by decide

theorem witness_StepRunsSelectedOperation : bootRow.dueEvent = none ∧ bootRow.irq = 0#3 ∧ bootRow.wait = .none := by decide
/-- Every clause of StepDeliversDueEvent. -/
theorem witness_StepDeliversDueEvent :
    (∀ c : EventCode, ({ asleepRow with stimulus := [.event c] } : State).dueEvent = some c) ∧
    asleepRow.params.hasBlink = false ∧ ({ waitingRow with stimulus := [.event 3] } : State).dueEvent = some 3 ∧
    waitingRow.params.hasBlink = true := by decide
theorem witness_StepDispatchesRequests :
    (row 1 0 0 .wake 0b001 0b001 0b000 false dark).dueEvent = none ∧ (row 1 0 0 .wake 0b001 0b001 0b000 false dark).irq ≠ 0#3 := by
  decide
theorem witness_StepWaitsAtRest : asleepRow.dueEvent = none ∧ asleepRow.irq = 0#3 ∧ asleepRow.wait ≠ .none := by decide
theorem witness_StimulusDeliveryOrder : ({ asleepRow with stimulus := [.event 1] } : State).stimulus = [.event 1] ∧
    (asleepRow.irq = 0#3 ∧ asleepRow.wait ≠ .none) ∧ bootRow.wait = .none ∧
    ({ asleepRow with stimulus := [.block] } : State).stimulus = [.block] ∧ asleepRow.stimulus = [] := by decide
theorem witness_StepPerformsLoneService : (row 1 0 0 .wake 0b001 0b001 0b000 false dark).irq = 0b001#3 ∧
    (row 3 0 0 .tick 0b010 0b010 0b000 false dark).irq = 0b010#3 ∧
    (row 3 0 0 .tick 0b110 0b100 0b000 false dark true).irq = 0b100#3 := by decide
/-- IrqBlinkService, BlinkOverflowLatches, LightsleepEffect, BlinkBitsHardwired, AbsentOperationsAreRefused. -/
theorem witness_blink_variant : waitingRow.params.hasBlink = true ∧ asleepRow.params.hasBlink = false := by decide
/-- WakeEdgeLatches, TickOverflowLatches, BlinkOverflowLatches: both sides of each enable, and a flag already set. -/
theorem witness_Latches : asleepRow.wakeIe = true ∧ waitingRow.wakeIe = false ∧ waitingRow.tickIe = true ∧
    asleepRow.tickIe = false ∧ waitingRow.blinkIe = true ∧ (row 0 0 0 .none 0 0 0 false dark true).blinkIe = false ∧
    delayRow.wakeIf = true := by decide
theorem witness_DelayExpiryEndsDelay : delayRow.wait = .delay ∧ delayRow.dly = true ∧ delayRow.irq = 0#3 ∧
    asleepRow.wait ≠ .delay ∧ yieldsSome (exec .evDlyDone delayRow) (fun _ => true) = true := by decide
theorem witness_PowerOnReset : yieldsSome (exec .evReset waitingRow) (fun _ => true) = true := by decide
theorem witness_WakeupEffect : yieldsSome (exec .wakeup (row 2 64 1 .none 0 0b010 0 false dark)) (fun _ => true) = true ∧
    (row 2 64 1 .none 0 0b010 0 false dark).dly = false ∧ (row 2 64 1 .none 0 0b010 0 false dark).wait = .none := by decide
/-- TockEffect, RomPortShowsLookup: both branches at the boundary, and the far end of each. -/
theorem witness_TockEffect : (row 3 63 2 .none 0 0 0 false dark).tick.toNat < 64 ∧ (row 3 0 2 .none 0 0 0 false dark).tick.toNat < 64 ∧
    64 ≤ finalRow.tick.toNat ∧ 64 ≤ (row 3 127 3 .none 0 0 0 false dark).tick.toNat ∧ finalRow.dly = false ∧
    finalRow.wait = .none ∧ finalRow.irq = 0#3 ∧ yieldsSome (exec .tock finalRow) (fun _ => true) = true ∧
    yieldsSome (exec .tock (withTrom (row 3 63 2 .none 0 0 0 false dark))) (fun _ => true) = true := by decide
theorem witness_RecoverEffect : (row 6 0 0 .none 0 0 0 true dark).dly = false ∧ (row 6 0 0 .none 0 0 0 true dark).wait = .none ∧
    (row 6 0 0 .none 0 0 0 true dark).irq = 0#3 := by decide
theorem witness_SettleDoneEffect :
    yieldsSome (exec (.settleDone 7) (row 7 0 0 .none 0 0 0b100 false dark)) (fun _ => true) = true ∧
    (row 7 0 0 .none 0 0 0b100 false dark).wait = .none := by decide

/-- StepKeepsRomAndOptions, ObservationsAreFresh, NoOperationReadsIndicator: a step that answers a next state. -/
theorem witness_step : yields (step asleepRow) (after asleepRow) = true := by decide
theorem witness_ObservationsAreFresh : asleepRow.led = .level false ∧ waitingRow.led = .unspecified := by decide
theorem witness_ProfileIndexWriters : (yields (step finalRow) (after finalRow) = true ∧ (after finalRow).profileI ≠ finalRow.profileI) ∧
    yieldsSome (step { finalRow with stimulus := [.event 7] }) (fun t => decide (t.profileI ≠ finalRow.profileI)) = true := by
  decide
theorem witness_TickCounterWriters :
    yieldsSome (step (withTrom (row 3 63 2 .none 0b010 0 0b001 false .unspecified))) (fun t => decide (t.tick ≠ 63#7)) = true ∧
    yieldsSome (step (row 2 64 1 .none 0 0 0 false dark)) (fun t => decide (t.tick ≠ 64#7)) = true := by decide
theorem witness_ReturnStateWriters :
    yieldsSome (step { row 4 0 0 .blink 0b110 0 0b011 false dark true 3 with stimulus := [.event 7] })
      (fun t => decide (t.retState ≠ 3#3)) = true := by decide
theorem witness_EnablesRiseOnlyByArming :
    yieldsSome (step (row 0 0 0 .none 0 0 0b100 false dark)) (fun t => t.wakeIe) = true ∧
    (row 0 0 0 .none 0 0 0b100 false dark).wakeIe = false ∧
    yieldsSome (step (row 2 0 0 .none 0 0 0 false dark true)) (fun t => t.tickIe && t.blinkIe) = true ∧
    (row 2 0 0 .none 0 0 0 false dark true).tickIe = false ∧ (row 2 0 0 .none 0 0 0 false dark true).blinkIe = false := by decide
theorem witness_FlagsRiseOnlyByEvents :
    yieldsSome (step { asleepRow with stimulus := [.event 1] }) (fun t => t.wakeIf && !asleepRow.wakeIf) = true ∧
    yieldsSome (step { waitingRow with stimulus := [.event 2] }) (fun t => t.tickIf && !waitingRow.tickIf) = true ∧
    yieldsSome (step { waitingRow with stimulus := [.event 3] }) (fun t => t.blinkIf && !waitingRow.blinkIf) = true ∧
    ({ asleepRow with stimulus := [.event 1] } : State).nextMove ≠ .operation .evReset ∧
    ({ waitingRow with stimulus := [.event 2] } : State).nextMove ≠ .operation .evReset ∧
    ({ waitingRow with stimulus := [.event 3] } : State).nextMove ≠ .operation .evReset := by decide
/-- T1, T3. -/
theorem witness_MotorStartsOnlyByProfileBit :
    yieldsSome (step (withTrom (row 3 63 2 .none 0b010 0 0b001 false .unspecified))) (fun t => t.motorOn) = true := by decide
/-- One suspension for each way out of it. -/
theorem witness_SuspensionEndsByDesignatedSource :
    yieldsSome (step (row 1 0 0 .wake 0b001 0b001 0 false dark)) (fun t => decide (t.wait ≠ .wake)) = true ∧
    yieldsSome (step (row 3 5 0 .tick 0b010 0b010 0b001 false dark)) (fun t => decide (t.wait ≠ .tick)) = true ∧
    yieldsSome (step (row 4 0 0 .blink 0b110 0b100 0b011 false dark true 3)) (fun t => decide (t.wait ≠ .blink)) = true ∧
    yieldsSome (step { delayRow with stimulus := [.event 4] }) (fun t => decide (t.wait ≠ .delay)) = true ∧
    yieldsSome (step { asleepRow with stimulus := [.event 7] }) (fun t => decide (t.wait ≠ .wake)) = true := by decide

theorem witness_TickBoundKept : (row 3 63 2 .none 0b010 0 0b001 false dark).tick.toNat ≤ 64 ∧ finalRow.tick.toNat ≤ 64 ∧
    finalRow.nextMove ≠ .operation .evReset ∧ yields (step finalRow) (after finalRow) = true ∧
    yieldsSome (step (withTrom (row 3 63 2 .none 0b010 0 0b001 false .unspecified))) (fun t => decide (t.lookup ≠ none)) = true := by
  decide
theorem witness_PowerOnStatesAreNormal : bootRow.poweredOn = true := by decide
theorem witness_NormalCycleKept : waitingRow.normal ∧ ({ waitingRow with stimulus := [.event 2] } : State).normal ∧
    ({ waitingRow with stimulus := [.event 2] } : State).envOk = true ∧
    yieldsSome (step { waitingRow with stimulus := [.event 2] }) (fun _ => true) = true :=
  ⟨⟨.waiting, by decide⟩, ⟨.waiting, by decide⟩, by decide, by decide⟩
/-- A run from power-on that has taken a step. -/
theorem witness_RunsKeepInvariants : Run (History.fresh.after bootRow bootRow.nextMove) (after bootRow) :=
  Run.move History.fresh bootRow (after bootRow) (Run.powerOn bootRow (by decide)) (by decide) rfl
theorem witness_SettlingIgnoresBounces : delayRow.settling = true ∧ yields (step delayRow) (after delayRow) = true := by decide
/-- L2: deep sleep with the wake pin disarmed, under a wake edge; and a tick suspension whose timer is stopped. -/
theorem witness_StuckSuspensionsLast :
    ({ row 1 0 0 .wake 0 0 0 false dark with stimulus := [.event 1] } : State).stuck = true ∧
    ({ row 1 0 0 .wake 0 0 0 false dark with stimulus := [.event 1] } : State).envOk = true ∧
    ({ row 1 0 0 .wake 0 0 0 false dark with stimulus := [.event 1] } : State).nextMove ≠ .operation .evReset ∧
    yieldsSome (step { row 1 0 0 .wake 0 0 0 false dark with stimulus := [.event 1] }) (fun _ => true) = true ∧
    (row 3 1 0 .tick 0b010 0 0 false dark).stuck = true := by decide

theorem witness_SequencerSuspendsWithinTwo : bootRow.stimulus = [] ∧ bootRow.wait = .none ∧ bootRow.irq = 0#3 := by decide
/-- An event; a trace of every code that names one, from rest and from a running state; an empty trace; a malformed trace. -/
theorem witness_EventRunsToRest : (({ waitingRow with stimulus := [.event 3] } : State).stimulus = [.event 3] ∧
    waitingRow.irq = 0#3 ∧ waitingRow.wait ≠ .none ∧ waitingRow.params.hasBlink = true) ∧
    firstUnassigned waitingRow.params.hasBlink [1, 2, 3, 4, 7] = none ∧ bootRow.wait = .none ∧
    firstUnassigned bootRow.params.hasBlink [] = none ∧
    firstUnassigned waitingRow.params.hasBlink [4, 5] = some 5#3 ∧ bootRow.params.hasBlink = false ∧
    firstUnassigned bootRow.params.hasBlink [1, 3] = some 3#3 := by decide
theorem witness_BootReachesDeepSleep :
    ({ waitingRow with stimulus := [.event 7, .eventAtRest 4] } : State).stimulus = [.event 7, .eventAtRest 4] := by decide
/-- The tick clause, and the blink clause on the blink variant. -/
theorem witness_DeepSleepIgnoresTimers : ({ asleepRow with stimulus := [.event 2] } : State).inPhase .asleep = true ∧
    asleepRow.wakeIf = false ∧
    ({ row 1 64 1 .wake 0b001 0 0 false dark true with stimulus := [.event 3] } : State).inPhase .asleep = true ∧
    (row 1 64 1 .wake 0b001 0 0 false dark true).wakeIf = false ∧
    (row 1 64 1 .wake 0b001 0 0 false dark true).params.hasBlink = true := by decide
/-- The first and the last tick of a playback, with a further tick to come and without. -/
theorem witness_PlaybackDrivesProfileBits :
    ({ row 2 64 1 .none 0 0b010 0 false dark with stimulus := traceOf (traceTicks 64) } : State).inPhase .woken = true ∧
    (0 < 64 ∧ 0 < 64) ∧ (63 < 64 ∧ 63 < 64) ∧
    ({ row 2 64 1 .none 0 0b010 0 false dark with stimulus := traceOf (traceTicks 63) } : State).inPhase .woken = true ∧
    (63 < 64 ∧ 63 ≤ 63) := by decide
theorem witness_ActivationReturnsToSleep : ({ asleepRow with stimulus := traceOf traceCycle } : State).inPhase .asleep = true ∧
    asleepRow.wakeIf = false := by decide

/-! ## Responses (30_encoding.md rule R70, 95_test_vectors.md programs P4, P6) -/

/-- The response, as far as `f` shows of it. -/
def shown {A : Type} (f : Entry → A) (codes : List EventCode) (s : State) : Option (List A) :=
  match response codes s with
  | .next entries => some (entries.map f)
  | .fault _ => none
  | .refused _ => none

/-- P4 (b), step b0: no event; the machine recovers and comes to rest, the motor off after GOTOSLEEP. -/
theorem test_respond_recovers :
    shown (fun e => (e.performed, e.outputs.motorOn, e.outputs.dly)) [] (row 6 6 0 .none 0b010 0 0b001 true .unspecified) =
      some [(.operation (.recoverHigh 0), true, false), (.operation .gotosleep, false, true)] := by decide

/-- P6 (a), step 6: the blink service, the blink timer running and the tick suspension lasting. -/
theorem test_respond_blink :
    shown (fun e => (e.performed, e.outputs.blinkRun, e.outputs.pwr)) [3] waitingRow =
      some [(.dispatch [.irqBlink], true, .light)] := by decide

/-- 30_encoding.md rule R67 (c): code 5 names no event, and no event of its trace is applied. -/
theorem test_respond_malformed : respond [3, 5] waitingRow = .refused (.malformedStimulus 5#3) := rfl

/-- Program P6: a dispatch of two services as the spec writes it, its braces apart. -/
theorem test_text_dispatch : (Performed.dispatch [.irqTick, .irqBlink]).text.toList =
    "DISPATCH".toList ++ [Char.ofNat 123] ++ "IRQ_TICK, IRQ_BLINK".toList ++ [Char.ofNat 125] := by decide

end Sys2Proof.Tests
end

/-! SUPPORT. What one transition can do, said once for all the statements about registers and runs: a dispatch and each
operation as one record update, and the inversion of a step. -/

namespace Sys2Proof.Machine

variable {s t : State}

/-! ## One dispatch -/

/-- One dispatch as one record update, read off the three requests (40_dispatcher.md rule R87). -/
theorem dispatch_record (s : State) :
    dispatch s =
      { s with
        wakeIf := s.wakeIf && !s.wakeRequest
        wakeIe := s.wakeIe && !s.wakeRequest
        tickIf := s.tickIf && !s.tickRequest
        blinkIf := s.blinkIf && !s.blinkRequest
        tickClr := s.tickClr || s.tickRequest
        state := if s.blinkRequest = true ∧ s.wait = .blink then s.retState
                 else if s.tickRequest then codeTock
                 else if s.wakeRequest then codeWakeup
                 else s.state
        wait := if (s.wakeRequest = true ∧ s.wait = .wake) ∨ (s.tickRequest = true ∧ s.wait = .tick) ∨
                   (s.blinkRequest = true ∧ s.wait = .blink) then .none else s.wait } := by
  rw [dispatch_eq]
  cases hw : s.wakeRequest <;> cases ht : s.tickRequest <;> cases hb : s.blinkRequest <;>
    simp [serveWake_eq, serveTick_eq, serveBlink_eq, endService_eq, codeTock, codeWakeup, or_assoc]

/-- What no dispatch writes (40_dispatcher.md rule R88). -/
@[simp] theorem dispatch_frame (s : State) :
    (dispatch s).tick = s.tick ∧ (dispatch s).profileI = s.profileI ∧ (dispatch s).retState = s.retState ∧
    (dispatch s).tickIe = s.tickIe ∧ (dispatch s).blinkIe = s.blinkIe ∧ (dispatch s).tickRun = s.tickRun ∧
    (dispatch s).blinkRun = s.blinkRun ∧ (dispatch s).dly = s.dly ∧ (dispatch s).motorOn = s.motorOn ∧
    (dispatch s).led = s.led ∧ (dispatch s).lookup = s.lookup ∧ (dispatch s).mem = s.mem ∧
    (dispatch s).params = s.params ∧ (dispatch s).stimulus = s.stimulus ∧ (dispatch s).draws = s.draws := by
  rw [dispatch_record]
  and_intros <;> rfl

/-- What a dispatch can only clear: the flags and the one-shot enable of the wake pin. -/
@[simp] theorem dispatch_flags (s : State) :
    (dispatch s).wakeIf = (s.wakeIf && !s.wakeRequest) ∧ (dispatch s).wakeIe = (s.wakeIe && !s.wakeRequest) ∧
    (dispatch s).tickIf = (s.tickIf && !s.tickRequest) ∧ (dispatch s).blinkIf = (s.blinkIf && !s.blinkRequest) := by
  rw [dispatch_record]
  and_intros <;> rfl

/-- The last write of `state` stands. -/
theorem dispatch_state (s : State) :
    (dispatch s).state =
      if s.blinkRequest = true ∧ s.wait = .blink then s.retState
      else if s.tickRequest then codeTock
      else if s.wakeRequest then codeWakeup
      else s.state := by
  rw [dispatch_record]

theorem dispatch_wait (s : State) :
    (dispatch s).wait =
      if (s.wakeRequest = true ∧ s.wait = .wake) ∨ (s.tickRequest = true ∧ s.wait = .tick) ∨
         (s.blinkRequest = true ∧ s.wait = .blink) then .none else s.wait := by
  rw [dispatch_record]

/-- A dispatch leaves `wait` alone or ends the suspension for its designated source (10_state.md rule R24). -/
theorem dispatch_wait_cases (s : State) :
    (dispatch s).wait = s.wait ∨
    ((dispatch s).wait = .none ∧
      ((s.wakeRequest = true ∧ s.wait = .wake) ∨ (s.tickRequest = true ∧ s.wait = .tick) ∨
        (s.blinkRequest = true ∧ s.wait = .blink))) := by
  rw [dispatch_wait]
  split_ifs with h
  · exact .inr ⟨rfl, h⟩
  · exact .inl rfl

/-- Every request that was served is over (40_dispatcher.md rule R87). -/
@[simp] theorem dispatch_irqPending (s : State) : (dispatch s).irqPending = false := by
  rw [State.irqPending_eq_false_iff]
  refine ⟨?_, ?_, ?_⟩
  · cases hw : s.wakeRequest <;> simp_all [State.wakeRequest]
  · cases ht : s.tickRequest <;> simp_all [State.tickRequest]
  · cases hb : s.blinkRequest <;> simp_all [State.blinkRequest, State.readBlinkIe, State.readBlinkIf]

/-! ## The operations as record updates -/

theorem exec_settleDone (code : StateCode) (s : State) :
    exec (.settleDone code) s =
      .next { s with dly := false, led := .level false, wakeIe := true, tickIe := false, blinkIe := false,
                     wakeIf := false, tickIf := false, blinkIf := false, state := codeSleep } := by
  simp [exec, execSettleDone, State.armWakeOnly_eq, State.setDly, State.setLed, State.setState]

theorem exec_gotosleep (s : State) :
    exec .gotosleep s =
      .next { s with tickRun := false, blinkRun := false, motorOn := false, dly := true,
                     led := .level s.params.delayLed, wait := .delay } := by
  simp [exec, execGotosleep, State.allOff_eq, State.startDelay_eq]

theorem exec_wakeup (s : State) :
    exec .wakeup s =
      .next { s with wakeIe := false, tickIf := false, tickRun := true, tickClr := true, tickIe := true,
                     blinkIf := false, blinkRun := s.params.hasBlink, blinkIe := s.params.hasBlink,
                     led := .unspecified, tick := 0#7, state := codeTock } := by
  simp [exec, execWakeup, State.armTick_eq, State.armBlink_eq, State.setWakeIe, State.setLed, State.setTick,
    State.setState]

theorem State.playbackDone_iff (s : State) : s.playbackDone = true ↔ 64 ≤ s.tick.toNat := decide_eq_true_iff

theorem exec_tock_final (h : 64 ≤ s.tick.toNat) :
    exec .tock s = .next { s with profileI := nextProfile s.profileI, state := codeGoToSleep } := by
  simp [exec, execTock, s.playbackDone_iff.mpr h, State.finishPlayback, State.setProfileI, State.setState]

theorem exec_tock_stepping (h : s.tick.toNat < 64) :
    exec .tock s =
      .next { s with lookup := some (romAddress s.profileI s.tickIndex, romRead s.mem s.profileI s.tickIndex),
                     motorOn := romRead s.mem s.profileI s.tickIndex, tick := nextTick s.tick, wait := .tick } := by
  have hp : ¬ s.playbackDone = true := by rw [s.playbackDone_iff]; omega
  simp [exec, execTock, hp, State.playTick_eq, nextTick]

theorem nextTick_toNat {k : TickCount} (h : k.toNat < 64) : (nextTick k).toNat = k.toNat + 1 := by
  simp [nextTick]; omega

theorem exec_lightsleep (hb : s.params.hasBlink = true) : exec .lightsleep s = .next { s with wait := .blink } :=
  if_pos hb

theorem exec_irqBlink (hb : s.params.hasBlink = true) : exec .irqBlink s = .next (endService (serveBlink (s, false))) :=
  if_pos hb

theorem exec_evBlinkOvf (hb : s.params.hasBlink = true) : exec .evBlinkOvf s = .next { s with blinkIf := true } := by
  simp [exec, execEvBlinkOvf, State.setBlinkIf, hb]

/-- Three operations answer a next state on the blink variant only (30_encoding.md rule R60). -/
theorem hasBlink_of_exec {i : Instr} (hi : i = .lightsleep ∨ i = .irqBlink ∨ i = .evBlinkOvf) (h : exec i s = .next t) :
    s.params.hasBlink = true := by
  by_contra hb
  obtain rfl | rfl | rfl := hi
  · cases (if_neg hb).symm.trans h
  · cases (if_neg hb).symm.trans h
  · cases (if_neg hb).symm.trans h

theorem exec_evDlyDone (s : State) :
    exec .evDlyDone s = .next { s with wait := if s.wait = .delay then .none else s.wait } := by
  by_cases h : s.wait = .delay <;> simp [exec, execEvDlyDone, h, State.setWait]

/-- EV_RESET: what the spec leaves unspecified takes some value (70_reset_and_hazards.md rule R170). -/
theorem exec_evReset (s : State) :
    ∃ (tick : TickCount) (wf tf bf tr br : Bool) (d : Nat),
      exec .evReset s =
        .next { s with state := 0#3, profileI := 0#3, retState := 0#3, wakeIe := false, tickIe := false,
                       blinkIe := false, dly := false, motorOn := false, led := .level false, wait := .none,
                       tick := tick, wakeIf := wf, tickIf := tf, blinkIf := bf && s.params.hasBlink,
                       tickRun := tr, blinkRun := br && s.params.hasBlink, draws := d } :=
  ⟨Config.resetTick s.draws, Config.resetWakeIf s.draws, Config.resetTickIf s.draws, Config.resetBlinkIf s.draws,
    Config.resetTickRun s.draws, Config.resetBlinkRun s.draws, s.draws + 1,
    by simp [exec, execEvReset, resetGiven_eq, resetDrawn_eq]⟩

/-! ## The operation that the decode word selects -/

theorem decodeS_decodeWord (b : Bool) (s : State) :
    decodeS b s.decodeWord = if s.dly then .settleDone s.state else decodeStateCode b s.state := by
  have top_bit : ∀ (d : Bool) (c : StateCode), (BitVec.ofBool d ++ c).getLsbD 3 = d := by decide
  have hd : s.decodeWord.getLsbD 3 = s.dly := top_bit s.dly s.state
  have hc : s.decodeWord.extractLsb' 0 3 = s.state := BitVec.extractLsb'_append_eq_right
  simp only [decodeS, hd, hc]

/-! ## The inversion of a step -/

/-- The sequencer has the move: no event is due, nothing requests, and it is not suspended (41_sequencer.md rule R100). -/
structure State.SequencerTurn (s : State) : Prop where
  noEvent : s.dueEvent = none
  noRequest : s.irqPending = false
  running : s.wait = .none

/-- Everything a step that answers a next state can do, with the guard under which it does it: one constructor per event,
dispatch, operation of the sequencer (TOCK in its two branches, RECOVER under its three encodings) and waiting. -/
inductive Transition (s : State) : State → Prop where
  | wakeEdge (hd : s.dueEvent = some 1#3) (hm : s.nextMove = .operation .evWakeEdge) :
      Transition s { s.enter s.restStimulus with wakeIf := true }
  | tickOvf (hd : s.dueEvent = some 2#3) (hm : s.nextMove = .operation .evTickOvf) :
      Transition s { s.enter s.restStimulus with tickIf := true }
  | blinkOvf (hd : s.dueEvent = some 3#3) (hm : s.nextMove = .operation .evBlinkOvf)
      (hb : s.params.hasBlink = true) :
      Transition s { s.enter s.restStimulus with blinkIf := true }
  | delayDone (hd : s.dueEvent = some 4#3) (hm : s.nextMove = .operation .evDlyDone) :
      Transition s { s.enter s.restStimulus with wait := if s.wait = .delay then .none else s.wait }
  | reset (hd : s.dueEvent = some 7#3) (hm : s.nextMove = .operation .evReset)
      (tick : TickCount) (wf tf bf tr br : Bool) (d : Nat) :
      Transition s
        { s.enter s.restStimulus with
          state := 0#3, profileI := 0#3, retState := 0#3, wakeIe := false, tickIe := false, blinkIe := false
          dly := false, motorOn := false, led := .level false, wait := .none
          tick := tick, wakeIf := wf, tickIf := tf, blinkIf := bf && s.params.hasBlink
          tickRun := tr, blinkRun := br && s.params.hasBlink, draws := d }
  | dispatch (hd : s.dueEvent = none) (hq : s.irqPending = true) (hm : s.nextMove = .dispatch) :
      Transition s (dispatch (s.enter s.restStimulus))
  | settleDone (hs : s.SequencerTurn) (hdly : s.dly = true) (hm : s.nextMove = .operation (.settleDone s.state)) :
      Transition s
        { s.enter s.restStimulus with
          dly := false, led := .level false, wakeIe := true, tickIe := false, blinkIe := false
          wakeIf := false, tickIf := false, blinkIf := false, state := codeSleep }
  | gotosleep (hs : s.SequencerTurn) (hdly : s.dly = false) (hc : s.state = 0#3) (hm : s.nextMove = .operation .gotosleep) :
      Transition s
        { s.enter s.restStimulus with
          tickRun := false, blinkRun := false, motorOn := false, dly := true
          led := .level s.params.delayLed, wait := .delay }
  | sleep (hs : s.SequencerTurn) (hdly : s.dly = false) (hc : s.state = 1#3) (hm : s.nextMove = .operation .sleep) :
      Transition s { s.enter s.restStimulus with wait := .wake }
  | wakeup (hs : s.SequencerTurn) (hdly : s.dly = false) (hc : s.state = 2#3) (hm : s.nextMove = .operation .wakeup) :
      Transition s
        { s.enter s.restStimulus with
          wakeIe := false, tickIf := false, tickRun := true, tickClr := true, tickIe := true
          blinkIf := false, blinkRun := s.params.hasBlink, blinkIe := s.params.hasBlink
          led := .unspecified, tick := 0#7, state := codeTock }
  | tockStepping (hs : s.SequencerTurn) (hdly : s.dly = false) (hc : s.state = 3#3) (hm : s.nextMove = .operation .tock)
      (ht : s.tick.toNat < 64) :
      Transition s
        { s.enter s.restStimulus with
          lookup := some (romAddress s.profileI s.tickIndex, romRead s.mem s.profileI s.tickIndex)
          motorOn := romRead s.mem s.profileI s.tickIndex, tick := nextTick s.tick, wait := .tick }
  | tockFinal (hs : s.SequencerTurn) (hdly : s.dly = false) (hc : s.state = 3#3) (hm : s.nextMove = .operation .tock)
      (ht : 64 ≤ s.tick.toNat) :
      Transition s { s.enter s.restStimulus with profileI := nextProfile s.profileI, state := codeGoToSleep }
  | lightsleep (hs : s.SequencerTurn) (hdly : s.dly = false) (hc : s.state = 4#3)
      (hm : s.nextMove = .operation .lightsleep) (hb : s.params.hasBlink = true) :
      Transition s { s.enter s.restStimulus with wait := .blink }
  | recover (i : Instr) (hs : s.SequencerTurn) (hdly : s.dly = false) (hc : 4 ≤ s.state.toNat)
      (hi : i = .recoverFive ∨ (∃ low, i = .recoverHigh low) ∨ i = .recoverFour) (hm : s.nextMove = .operation i) :
      Transition s { s.enter s.restStimulus with state := codeGoToSleep }
  | idle (hr : s.atRest = true) (hm : s.nextMove = .idle) : Transition s (s.enter s.restStimulus)

/-- A step that performs the operation `i` answers what `exec` answers, so the answer is `t` if `exec` says so. -/
theorem eq_of_step_of_exec {i : Instr} {u : State} (h : step s = .next t) (hm : s.nextMove = .operation i)
    (he : exec i (s.enter s.restStimulus) = .next u) : t = u := by
  rw [step_of_operation hm, he] at h
  exact (Host.Outcome.next.inj h).symm

/-- The inversion for an event. -/
theorem transition_of_event {c : EventCode} {i : Instr} (h : step s = .next t) (hd : s.dueEvent = some c)
    (hi : decodeV s.params.hasBlink c = .ok i) (hm : s.nextMove = .operation i) : Transition s t := by
  obtain ⟨rfl, rfl⟩ | ⟨rfl, rfl⟩ | ⟨rfl, hb, rfl⟩ | ⟨rfl, rfl⟩ | ⟨rfl, rfl⟩ := decodeV_ok_cases hi
  · exact eq_of_step_of_exec h hm rfl ▸ .wakeEdge hd hm
  · exact eq_of_step_of_exec h hm rfl ▸ .tickOvf hd hm
  · exact eq_of_step_of_exec h hm (exec_evBlinkOvf (s := s.enter s.restStimulus) hb) ▸ .blinkOvf hd hm hb
  · exact eq_of_step_of_exec h hm (exec_evDlyDone _) ▸ .delayDone hd hm
  · obtain ⟨tick, wf, tf, bf, tr, br, d, he⟩ := exec_evReset (s.enter s.restStimulus)
    exact eq_of_step_of_exec h hm he ▸ .reset hd hm tick wf tf bf tr br d

/-- The inversion for TOCK, at the boundary of rule R104. -/
theorem transition_of_tock (h : step s = .next t) (hs : s.SequencerTurn) (hdly : s.dly = false) (hc : s.state = 3#3)
    (hm : s.nextMove = .operation .tock) : Transition s t := by
  obtain ht | ht := Nat.lt_or_ge s.tick.toNat 64
  · exact eq_of_step_of_exec h hm (exec_tock_stepping (s := s.enter s.restStimulus) ht) ▸ .tockStepping hs hdly hc hm ht
  · exact eq_of_step_of_exec h hm (exec_tock_final (s := s.enter s.restStimulus) ht) ▸ .tockFinal hs hdly hc hm ht

/-- The inversion for the sequencer, code by code. -/
theorem transition_of_sequencer (h : step s = .next t) (hs : s.SequencerTurn) : Transition s t := by
  have hm := State.nextMove_of_running hs.noEvent hs.noRequest hs.running
  rw [decodeS_decodeWord] at hm
  cases hdly : s.dly
  case true =>
    rw [hdly] at hm
    exact eq_of_step_of_exec h hm (exec_settleDone _ _) ▸ .settleDone hs hdly hm
  case false =>
    rw [hdly, if_neg Bool.false_ne_true] at hm
    rcases code_cases s.state with hc | hc | hc | hc | hc | hc | hc | hc <;> rw [hc] at hm
    · exact eq_of_step_of_exec h hm (exec_gotosleep _) ▸ .gotosleep hs hdly hc hm
    · exact eq_of_step_of_exec h hm rfl ▸ .sleep hs hdly hc hm
    · exact eq_of_step_of_exec h hm (exec_wakeup _) ▸ .wakeup hs hdly hc hm
    · exact transition_of_tock h hs hdly hc hm
    · cases hb : s.params.hasBlink <;> rw [hb] at hm
      case true =>
        exact eq_of_step_of_exec h hm (exec_lightsleep (s := s.enter s.restStimulus) hb) ▸ .lightsleep hs hdly hc hm hb
      case false => exact eq_of_step_of_exec h hm rfl ▸ .recover _ hs hdly (by simp [hc]) (.inr (.inr rfl)) hm
    · exact eq_of_step_of_exec h hm rfl ▸ .recover _ hs hdly (by simp [hc]) (.inl rfl) hm
    · exact eq_of_step_of_exec h hm rfl ▸ .recover _ hs hdly (by simp [hc]) (.inr (.inl ⟨_, rfl⟩)) hm
    · exact eq_of_step_of_exec h hm rfl ▸ .recover _ hs hdly (by simp [hc]) (.inr (.inl ⟨_, rfl⟩)) hm

/-- The inversion of a step: what it did, and under which guard. -/
theorem transition_of_step (h : step s = .next t) : Transition s t := by
  obtain ⟨c, i, hd, hi, hm⟩ | ⟨c, r, -, -, hm⟩ | ⟨hd, hq, hm⟩ | ⟨hd, hq, hw, -⟩ | ⟨-, hr, hm⟩ := s.nextMove_cases
  · exact transition_of_event h hd hi hm
  · cases (step_of_malformed hm).symm.trans h
  · cases (step_of_dispatch hm).symm.trans h
    exact .dispatch hd hq hm
  · exact transition_of_sequencer h ⟨hd, hq, hw⟩
  · cases (step_of_idle hm).symm.trans h
    exact .idle hr hm

end Sys2Proof.Machine


/-! SUPPORT. The statements about single registers, the request vector and the derived outputs (10_state.md). -/

namespace Sys2Proof.Machine

variable {s t : State}

/-! ## The request vector and the outputs -/

theorem State.irq_eq_and (s : State) : s.irq = s.regIF &&& s.regIE := by
  have bitwise : ∀ b₁ t₁ w₁ b₂ t₂ w₂ : Bool,
      (BitVec.ofBool (b₁ && b₂) ++ BitVec.ofBool (t₁ && t₂) ++ BitVec.ofBool (w₁ && w₂) : BitVec 3) =
        (BitVec.ofBool b₂ ++ BitVec.ofBool t₂ ++ BitVec.ofBool w₂ : BitVec 3) &&&
          (BitVec.ofBool b₁ ++ BitVec.ofBool t₁ ++ BitVec.ofBool w₁ : BitVec 3) := by decide
  exact bitwise ..

theorem State.blockMove_eq_dispatch_iff (s : State) : s.blockMove = .dispatch ↔ s.irqPending = true := by
  unfold State.blockMove
  split_ifs with hq <;> simp [hq]

theorem State.irqPending_of_blockMove_operation {i : Instr} (h : s.blockMove = .operation i) : s.irqPending = false := by
  cases hq : s.irqPending
  · rfl
  · cases (s.blockMove_eq_dispatch_iff.mpr hq).symm.trans h

/-- Settles O35: `irq` bit by bit, and who moves by it. -/
theorem requestVector : Obligations.RequestVector := by
  intro s
  obtain ⟨hw, ht, hb⟩ := s.irq_bits
  refine ⟨s.irq_eq_and, ?_, ?_, ?_, ?_, fun i hi => ?_⟩
  · rw [hw, State.wakeRequest, Bool.and_comm]
  · rw [ht, State.tickRequest, Bool.and_comm]
  · rw [hb, State.blinkRequest, State.readBlinkIe, State.readBlinkIf]
    cases s.blinkIe <;> cases s.blinkIf <;> cases s.params.hasBlink <;> rfl
  · rw [s.blockMove_eq_dispatch_iff, s.irqPending_iff_irq_ne_zero]
  · have hq := State.irqPending_of_blockMove_operation hi
    by_contra hne
    simp [s.irqPending_iff_irq_ne_zero.mpr hne] at hq

/-- Settles O36, by the five values of `wait`. -/
theorem derivedOutputs : Obligations.DerivedOutputs := by
  intro s
  refine ⟨rfl, ?_⟩
  cases hw : s.wait <;> simp [State.pwr, hw]

/-! ## The blink bits -/

/-- Settles O37: each blink bit is masked on read, so a write of it shows in no register. -/
theorem blinkBitsHardwired : Obligations.BlinkBitsHardwired := by
  intro s hb
  have hie : s.readBlinkIe = false := by simp [State.readBlinkIe, hb]
  have hif : s.readBlinkIf = false := by simp [State.readBlinkIf, hb]
  have hrun : s.readBlinkRun = false := by simp [State.readBlinkRun, hb]
  refine ⟨?_, ?_, ?_, fun b => ⟨?_, ?_, ?_⟩⟩
  · cases ht : s.tickIe <;> cases hw : s.wakeIe <;> simp [State.regIE, hie, ht, hw]
  · cases ht : s.tickIf <;> cases hw : s.wakeIf <;> simp [State.regIF, hif, ht, hw]
  · cases hd : s.dly <;> cases ht : s.tickRun <;> simp [State.regTMR, hrun, hd, ht]
  · simp [State.regIE, State.readBlinkIe, hb]
  · simp [State.regIF, State.readBlinkIf, hb]
  · simp [State.regTMR, State.readBlinkRun, hb]

/-! ## Who writes a register -/

/-- Settles O39: of all transitions only a final TOCK and a reset write `profile_i`. -/
theorem profileIndexWriters : Obligations.ProfileIndexWriters := by
  intro s t h hne
  cases transition_of_step h with
  | tockFinal hs hdly hc hm ht => exact .inl ⟨hm, ht, rfl⟩
  | reset hd hm => exact .inr ⟨hm, rfl⟩
  | dispatch => exact absurd (by simp) hne
  | _ => exact absurd rfl hne

/-- Settles O40: of all transitions only a stepping TOCK, WAKEUP and a reset write `tick`. -/
theorem tickCounterWriters : Obligations.TickCounterWriters := by
  intro s t h hne
  cases transition_of_step h with
  | tockStepping hs hdly hc hm ht => exact .inl ⟨hm, ht, nextTick_toNat ht⟩
  | wakeup hs hdly hc hm => exact .inr (.inl ⟨hm, rfl⟩)
  | reset hd hm => exact .inr (.inr hm)
  | dispatch => exact absurd (by simp) hne
  | _ => exact absurd rfl hne

/-- Settles O41: of all transitions only a reset writes `ret_state`. -/
theorem returnStateWriters : Obligations.ReturnStateWriters := by
  intro s t h hne
  cases transition_of_step h with
  | reset hd hm => exact ⟨hm, rfl⟩
  | dispatch => exact absurd (by simp) hne
  | _ => exact absurd rfl hne

/-- Settles O42: SETTLE_DONE and WAKEUP arm, every other transition keeps or clears an enable. -/
theorem enablesRiseOnlyByArming : Obligations.EnablesRiseOnlyByArming := by
  intro s t h
  cases transition_of_step h with
  | settleDone hs hdly hm => simp [hm]
  | wakeup hs hdly hc hm => simp [hm]
  | dispatch => simp +contextual
  | _ => simp +contextual

/-- Settles O43: the three events set their flags, every other transition but a reset keeps or clears a flag. -/
theorem flagsRiseOnlyByEvents : Obligations.FlagsRiseOnlyByEvents := by
  intro s t h hr
  cases transition_of_step h with
  | wakeEdge hd hm => simp +contextual [hm]
  | tickOvf hd hm => simp +contextual [hm]
  | blinkOvf hd hm => simp +contextual [hm]
  | reset hd hm => exact absurd hm hr
  | dispatch => simp +contextual
  | _ => simp +contextual

/-- Settles O45: the sequencer does not move while suspended, and a dispatch resumes for the designated source only. -/
theorem suspensionEndsByDesignatedSource : Obligations.SuspensionEndsByDesignatedSource := by
  intro s t h hw hne
  cases transition_of_step h with
  | reset hd hm => exact ⟨rfl, .inl hm⟩
  | delayDone hd hm =>
    have hdelay : s.wait = .delay := by
      by_contra hn
      exact hne (if_neg hn)
    exact ⟨by simp [hdelay], .inr (.inl ⟨hm, hdelay⟩)⟩
  | dispatch hd hq hm =>
    obtain ⟨hwake, htick, hblink⟩ := s.irq_bits
    rw [hwake, htick, hblink]
    obtain heq | ⟨hnone, hcause⟩ := dispatch_wait_cases (s.enter s.restStimulus)
    · exact absurd heq hne
    · exact ⟨hnone, .inr (.inr ⟨hm, hcause.imp And.symm (.imp And.symm And.symm)⟩)⟩
  | settleDone hs | gotosleep hs | sleep hs | wakeup hs | tockStepping hs | tockFinal hs | lightsleep hs =>
    exact absurd hs.running hw
  | recover i hs => exact absurd hs.running hw
  | _ => exact absurd rfl hne

/-! ## The bound on `tick` -/

/-- Only a stepping TOCK accesses the ROM (20_memory.md rule R44). -/
theorem tick_lt_of_lookup (h : step s = .next t) (hl : t.lookup ≠ none) : s.tick.toNat < 64 := by
  cases transition_of_step h with
  | tockStepping hs hdly hc hm ht => exact ht
  | dispatch => exact absurd (by simp) hl
  | _ => exact absurd rfl hl

/-- Settles O48, by the writers of `tick`. -/
theorem tickBoundKept : Obligations.TickBoundKept := by
  intro s t hb hr h
  refine ⟨?_, tick_lt_of_lookup h⟩
  by_cases hne : t.tick = s.tick
  · rwa [hne]
  · obtain ⟨-, ht, hn⟩ | ⟨-, hn⟩ | hm := tickCounterWriters s t h hne
    · omega
    · simp [hn]
    · exact absurd hm hr

/-! ## The indicator is read by nothing -/

theorem endService_setLed (r : State × Bool) (v : Indicator) : endService (r.1.setLed v, r.2) = (endService r).setLed v := by
  rw [endService_eq, endService_eq]
  rfl

theorem serveBlink_setLed (s : State) (b : Bool) (v : Indicator) :
    serveBlink (s.setLed v, b) = ((serveBlink (s, b)).1.setLed v, (serveBlink (s, b)).2) := by
  rw [serveBlink_eq, serveBlink_eq]
  rfl

theorem dispatch_setLed (s : State) (v : Indicator) : dispatch (s.setLed v) = (dispatch s).setLed v := by
  rw [dispatch_record, dispatch_record]
  rfl

/-- No operation reads `led` (10_state.md rule R27): with another `led` it answers the same state but for `led`. -/
theorem exec_setLed {i : Instr} (v : Indicator) (h : exec i s = .next t) : ∃ w, exec i (s.setLed v) = .next (t.setLed w) := by
  cases i with
  | tock =>
    obtain ht | ht := Nat.lt_or_ge s.tick.toNat 64
    · cases (exec_tock_stepping ht).symm.trans h
      exact ⟨v, exec_tock_stepping (s := s.setLed v) ht⟩
    · cases (exec_tock_final ht).symm.trans h
      exact ⟨v, exec_tock_final (s := s.setLed v) ht⟩
  | lightsleep =>
    have hb := hasBlink_of_exec (.inl rfl) h
    cases (exec_lightsleep hb).symm.trans h
    exact ⟨v, exec_lightsleep (s := s.setLed v) hb⟩
  | irqWake =>
    cases h
    exact ⟨v, congrArg _ (endService_setLed (serveWake (s, false)) v)⟩
  | irqTick =>
    cases h
    exact ⟨v, congrArg _ (endService_setLed (serveTick (s, false)) v)⟩
  | irqBlink =>
    have hb := hasBlink_of_exec (.inr (.inl rfl)) h
    cases (exec_irqBlink hb).symm.trans h
    refine ⟨v, (exec_irqBlink (s := s.setLed v) hb).trans ?_⟩
    rw [serveBlink_setLed, endService_setLed]
  | evDlyDone =>
    cases (exec_evDlyDone s).symm.trans h
    exact ⟨v, exec_evDlyDone (s.setLed v)⟩
  | evBlinkOvf =>
    have hb := hasBlink_of_exec (.inr (.inr rfl)) h
    cases (exec_evBlinkOvf hb).symm.trans h
    exact ⟨v, exec_evBlinkOvf (s := s.setLed v) hb⟩
  | _ =>
    cases h
    exact ⟨_, rfl⟩

/-- Which move is due does not depend on `led`, and no move reads it. -/
theorem step_setLed (v : Indicator) (h : step s = .next t) : ∃ w, step (s.setLed v) = .next (t.setLed w) := by
  obtain ⟨i, hm, he⟩ | ⟨hm, rfl⟩ | ⟨hm, rfl⟩ := step_next_cases h
  · obtain ⟨w, hw⟩ := exec_setLed v he
    exact ⟨w, (step_of_operation (s := s.setLed v) hm).trans hw⟩
  · exact ⟨v, (step_of_dispatch (s := s.setLed v) hm).trans (congrArg _ (dispatch_setLed (s.enter s.restStimulus) v))⟩
  · exact ⟨v, step_of_idle (s := s.setLed v) hm⟩

/-- Settles O47, by `step_setLed`. -/
theorem noOperationReadsIndicator : Obligations.NoOperationReadsIndicator := by
  intro s t v h
  obtain ⟨w, hw⟩ := step_setLed v h
  exact ⟨t.setLed w, hw, rfl⟩

end Sys2Proof.Machine


/-! SUPPORT. The normal cycle is kept (41_sequencer.md rule R107, 10_state.md rule R29): what each place says, where a state
of the cycle is, and how each transition leads from place to place. -/

namespace Sys2Proof.Machine

variable {s t : State} {ph : Phase}

/-! ## What a place of the cycle says -/

theorem State.quiet_iff : s.quiet = true ↔ s.tickRun = false ∧ s.readBlinkRun = false ∧ s.motorOn = false := by
  simp [State.quiet, and_assoc]

theorem State.playbackArmed_iff :
    s.playbackArmed = true ↔ s.tickIe = true ∧ s.tickRun = true ∧ s.wakeIe = false ∧ s.dly = false := by
  simp [State.playbackArmed, and_assoc]

theorem inPhase_boot_iff : s.inPhase .boot = true ↔
    s.state = 0#3 ∧ s.wait = .none ∧ s.dly = false ∧ s.wakeIe = false ∧ s.irqPending = false ∧ s.motorOn = false := by
  simp [State.inPhase, and_assoc]

theorem inPhase_delay_iff : s.inPhase .delay = true ↔
    s.state = 0#3 ∧ s.wait = .delay ∧ s.dly = true ∧ s.wakeIe = false ∧ s.irqPending = false ∧ s.quiet = true := by
  simp [State.inPhase, and_assoc]

theorem inPhase_settled_iff : s.inPhase .settled = true ↔
    s.state = 0#3 ∧ s.wait = .none ∧ s.dly = true ∧ s.wakeIe = false ∧ s.irqPending = false ∧ s.quiet = true := by
  simp [State.inPhase, and_assoc]

theorem inPhase_armed_iff : s.inPhase .armed = true ↔
    s.state = 1#3 ∧ s.wait = .none ∧ s.dly = false ∧ s.wakeIe = true ∧ s.tickIe = false ∧ s.readBlinkIe = false ∧
      s.quiet = true := by
  simp [State.inPhase, and_assoc]

theorem inPhase_asleep_iff : s.inPhase .asleep = true ↔
    s.state = 1#3 ∧ s.wait = .wake ∧ s.dly = false ∧ s.wakeIe = true ∧ s.tickIe = false ∧ s.readBlinkIe = false ∧
      s.quiet = true := by
  simp [State.inPhase, and_assoc]

theorem inPhase_woken_iff : s.inPhase .woken = true ↔
    s.state = 2#3 ∧ s.wait = .none ∧ s.dly = false ∧ s.wakeIe = false ∧ s.tickIe = false ∧ s.readBlinkIe = false ∧
      s.quiet = true := by
  simp [State.inPhase, and_assoc]

theorem inPhase_playing_iff : s.inPhase .playing = true ↔
    s.state = 3#3 ∧ s.wait = .none ∧ s.playbackArmed = true ∧ s.irqPending = false ∧ s.tick.toNat ≤ 64 ∧
      (s.tick ≠ 0#7 ∨ s.motorOn = false) := by
  simp [State.inPhase, and_assoc]

theorem inPhase_waiting_iff : s.inPhase .waiting = true ↔
    s.state = 3#3 ∧ s.wait = .tick ∧ s.playbackArmed = true ∧ s.tick.toNat ≤ 64 ∧ s.tick ≠ 0#7 := by
  simp [State.inPhase, and_assoc]

theorem inPhase_finished_iff : s.inPhase .finished = true ↔
    s.state = 0#3 ∧ s.wait = .none ∧ s.playbackArmed = true ∧ s.irqPending = false ∧ s.tick.toNat = 64 := by
  simp [State.inPhase, and_assoc]

theorem State.inPhase_enter (rest : List Turn) : (s.enter rest).inPhase ph = s.inPhase ph := by
  cases ph <;> rfl

theorem State.normal.enter (hn : s.normal) (rest : List Turn) : (s.enter rest).normal :=
  hn.imp fun _ h => by rwa [State.inPhase_enter]

/-! ## Where a state of the normal cycle is

One register or two decide the place, since the places differ in `state`, `wait`, `dly` and `wake_ie`. -/

theorem State.normal.state_lt (hn : s.normal) : s.state.toNat < 4 := by
  obtain ⟨ph, h⟩ := hn
  cases ph <;> simp_all [State.inPhase]

theorem State.normal.wait_ne_blink (hn : s.normal) : s.wait ≠ .blink := by
  obtain ⟨ph, h⟩ := hn
  cases ph <;> simp_all [State.inPhase]

theorem State.normal.asleep_of_wait (hn : s.normal) (hw : s.wait = .wake) : s.inPhase .asleep = true := by
  obtain ⟨ph, h⟩ := hn
  cases ph <;> simp_all [State.inPhase]

theorem State.normal.waiting_of_wait (hn : s.normal) (hw : s.wait = .tick) : s.inPhase .waiting = true := by
  obtain ⟨ph, h⟩ := hn
  cases ph <;> simp_all [State.inPhase]

theorem State.normal.delay_of_wait (hn : s.normal) (hw : s.wait = .delay) : s.inPhase .delay = true := by
  obtain ⟨ph, h⟩ := hn
  cases ph <;> simp_all [State.inPhase]

theorem State.normal.armed_of_state (hn : s.normal) (hw : s.wait = .none) (hc : s.state = 1#3) :
    s.inPhase .armed = true := by
  obtain ⟨ph, h⟩ := hn
  cases ph <;> simp_all [State.inPhase]

theorem State.normal.woken_of_state (hn : s.normal) (hc : s.state = 2#3) : s.inPhase .woken = true := by
  obtain ⟨ph, h⟩ := hn
  cases ph <;> simp_all [State.inPhase]

theorem State.normal.playing_of_state (hn : s.normal) (hw : s.wait = .none) (hc : s.state = 3#3) :
    s.inPhase .playing = true := by
  obtain ⟨ph, h⟩ := hn
  cases ph <;> simp_all [State.inPhase]

theorem State.normal.quiet_of_dly (hn : s.normal) (hd : s.dly = true) : s.quiet = true := by
  obtain ⟨ph, h⟩ := hn
  cases ph <;> simp_all [State.inPhase, State.playbackArmed]

theorem State.normal.wakeIe_eq_false (hn : s.normal) (hc : s.state ≠ 1#3) : s.wakeIe = false := by
  obtain ⟨ph, h⟩ := hn
  cases ph <;> simp_all [State.inPhase, State.playbackArmed]

/-- A timer's event comes only while playback is suspended (70_reset_and_hazards.md rule R182). -/
theorem State.normal.waiting_of_timersCount (hn : s.normal) (hc : s.timersCount = true) : s.inPhase .waiting = true := by
  have hw : s.wait = .tick := by simpa [State.timersCount, hn.wait_ne_blink] using hc
  exact hn.waiting_of_wait hw

/-! ## Requests -/

/-- With every source disarmed nothing requests. -/
theorem State.irqPending_eq_false (hw : s.wakeIe = false) (ht : s.tickIe = false) (hb : s.readBlinkIe = false) :
    s.irqPending = false := by
  simp [State.irqPending, State.wakeRequest, State.tickRequest, State.blinkRequest, hw, ht, hb]

/-- A disarmed wake pin latches its edge and requests nothing (40_dispatcher.md rule R81). -/
theorem State.irqPending_wakeIf (b : Bool) (hw : s.wakeIe = false) :
    ({ s with wakeIf := b } : State).irqPending = s.irqPending := by
  unfold State.irqPending State.wakeRequest
  simp only [hw]
  rfl

/-! ## The events -/

/-- A wake edge changes no place: where the pin is armed, or playback suspended, a request may be pending. -/
theorem inPhase_of_wakeEdge (h : s.inPhase ph = true) : ({ s with wakeIf := true } : State).inPhase ph = true := by
  have hq := State.irqPending_wakeIf (s := s) true
  cases ph with
  | armed | asleep | woken | waiting => exact h
  | boot | delay | settled => simp_all [State.inPhase, State.quiet, State.readBlinkRun]
  | playing | finished => simp_all [State.inPhase, State.playbackArmed]

theorem inPhase_settled_of_expiry (h : s.inPhase .delay = true) :
    ({ s with wait := .none } : State).inPhase .settled = true := by
  obtain ⟨hc, -, hd, hw, hq, hquiet⟩ := inPhase_delay_iff.mp h
  exact inPhase_settled_iff.mpr ⟨hc, rfl, hd, hw, hq, hquiet⟩

theorem State.permits_of_due {c : EventCode} (hd : s.dueEvent = some c) (he : s.envOk = true) : s.permits c = true := by
  simpa [State.envOk, hd] using he

theorem State.timersCount_of_permits (h : s.permits 2#3 = true ∨ s.permits 3#3 = true) : s.timersCount = true :=
  h.elim (fun h => (Bool.and_eq_true_iff.mp h).2) fun h => (Bool.and_eq_true_iff.mp h).2

theorem State.wait_of_permits_delay (h : s.permits 4#3 = true) : s.wait = .delay :=
  of_decide_eq_true (Bool.and_eq_true_iff.mp h).2

/-! ## The dispatcher -/

/-- From Sleep a dispatch serves the wake pin and nothing else, whether or not SLEEP has been performed. -/
theorem inPhase_woken_of_dispatch (h : s.inPhase .armed = true ∨ s.inPhase .asleep = true) (hq : s.irqPending = true) :
    (dispatch s).inPhase .woken = true := by
  have ht : s.tickRequest = false := by
    obtain h | h := h <;> simp_all [State.inPhase, State.tickRequest]
  have hb : s.blinkRequest = false := by
    obtain h | h := h <;> simp_all [State.inPhase, State.blinkRequest]
  have hw : s.wakeRequest = true := by simpa [State.irqPending, ht, hb] using hq
  obtain h | h := h <;>
    simp_all [State.inPhase, dispatch_state, dispatch_wait, codeWakeup, State.quiet, State.readBlinkRun, State.readBlinkIe]

/-- During playback a dispatch serves a timer: the tick timer resumes the sequencer, the blink timer alone does not. -/
theorem normal_of_dispatch_waiting (h : s.inPhase .waiting = true) : (dispatch s).normal := by
  have hw : s.wakeRequest = false := by simp_all [State.inPhase, State.playbackArmed, State.wakeRequest]
  cases ht : s.tickRequest
  case true =>
    exact ⟨.playing, by simp_all [State.inPhase, dispatch_state, dispatch_wait, codeTock, State.playbackArmed]⟩
  case false =>
    exact ⟨.waiting, by simp_all [State.inPhase, dispatch_state, dispatch_wait, State.playbackArmed]⟩

theorem normal_of_dispatch (hn : s.normal) (hq : s.irqPending = true) : (dispatch s).normal := by
  obtain ⟨ph, h⟩ := hn
  cases ph with
  | armed => exact ⟨.woken, inPhase_woken_of_dispatch (.inl h) hq⟩
  | asleep => exact ⟨.woken, inPhase_woken_of_dispatch (.inr h) hq⟩
  | waiting => exact normal_of_dispatch_waiting h
  | woken =>
    obtain ⟨-, -, -, hwake, htick, hblink, -⟩ := inPhase_woken_iff.mp h
    exact absurd hq (by simp [State.irqPending_eq_false hwake htick hblink])
  | boot | delay | settled | playing | finished => simp [State.inPhase, hq] at h

/-! ## The step -/

theorem nextTick_ne_zero {k : TickCount} (h : k.toNat < 64) : nextTick k ≠ 0#7 := fun h0 => by
  simpa [h0] using nextTick_toNat h

/-- Settles O50: each transition leads from its place, which its guard decides, to a place of the cycle. -/
theorem normalCycleKept : Obligations.NormalCycleKept := by
  intro s t hn henv h
  have hent := hn.enter s.restStimulus
  cases transition_of_step h with
  | wakeEdge => exact hent.imp fun _ => inPhase_of_wakeEdge
  | tickOvf hd =>
    exact ⟨.waiting, hn.waiting_of_timersCount (State.timersCount_of_permits (.inl (State.permits_of_due hd henv)))⟩
  | blinkOvf hd =>
    exact ⟨.waiting, hn.waiting_of_timersCount (State.timersCount_of_permits (.inr (State.permits_of_due hd henv)))⟩
  | delayDone hd =>
    have hw := State.wait_of_permits_delay (State.permits_of_due hd henv)
    rw [if_pos hw]
    exact ⟨.settled, inPhase_settled_of_expiry (hent.delay_of_wait hw)⟩
  | reset => exact ⟨.boot, inPhase_boot_iff.mpr ⟨rfl, rfl, rfl, rfl, State.irqPending_eq_false rfl rfl rfl, rfl⟩⟩
  | dispatch hd hq => exact normal_of_dispatch hent hq
  | settleDone hs hdly =>
    exact ⟨.armed, inPhase_armed_iff.mpr ⟨rfl, hs.running, rfl, rfl, rfl, rfl, hn.quiet_of_dly hdly⟩⟩
  | gotosleep hs hdly hc =>
    have hie := hn.wakeIe_eq_false (by simp [hc])
    exact ⟨.delay, inPhase_delay_iff.mpr ⟨hc, rfl, rfl, hie, hs.noRequest, rfl⟩⟩
  | sleep hs hdly hc =>
    obtain ⟨-, -, -, hrest⟩ := inPhase_armed_iff.mp (hn.armed_of_state hs.running hc)
    exact ⟨.asleep, inPhase_asleep_iff.mpr ⟨hc, rfl, hdly, hrest⟩⟩
  | wakeup hs hdly hc =>
    obtain ⟨-, -, -, -, -, -, hquiet⟩ := inPhase_woken_iff.mp (hn.woken_of_state hc)
    obtain ⟨-, -, hoff⟩ := State.quiet_iff.mp hquiet
    refine ⟨.playing, inPhase_playing_iff.mpr ⟨rfl, hs.running, State.playbackArmed_iff.mpr ⟨rfl, rfl, rfl, hdly⟩, ?_,
      Nat.zero_le 64, .inr hoff⟩⟩
    simp [State.irqPending, State.wakeRequest, State.tickRequest, State.blinkRequest, State.readBlinkIf]
  | tockStepping hs hdly hc hm ht =>
    obtain ⟨-, -, hplay, -⟩ := inPhase_playing_iff.mp (hn.playing_of_state hs.running hc)
    have hle : (nextTick s.tick).toNat ≤ 64 := by rw [nextTick_toNat ht]; omega
    exact ⟨.waiting, inPhase_waiting_iff.mpr ⟨hc, rfl, hplay, hle, nextTick_ne_zero ht⟩⟩
  | tockFinal hs hdly hc hm ht =>
    obtain ⟨-, -, hplay, hq, hle, -⟩ := inPhase_playing_iff.mp (hn.playing_of_state hs.running hc)
    exact ⟨.finished, inPhase_finished_iff.mpr ⟨rfl, hs.running, hplay, hq, Nat.le_antisymm hle ht⟩⟩
  | lightsleep hs hdly hc => exact absurd hn.state_lt (by simp [hc])
  | recover i hs hdly hc => exact absurd hn.state_lt (by omega)
  | idle => exact hent

/-! ## Power-on -/

theorem State.poweredOn_iff : s.poweredOn = true ↔
    s.state = 0#3 ∧ s.profileI = 0#3 ∧ s.retState = 0#3 ∧ s.wakeIe = false ∧ s.tickIe = false ∧ s.blinkIe = false ∧
      s.dly = false ∧ s.motorOn = false ∧ s.led = .level false ∧ s.wait = .none := by
  simp [State.poweredOn, and_assoc]

/-- Settles O49: every source is disarmed at power-on, so that nothing requests. -/
theorem powerOnStatesAreNormal : Obligations.PowerOnStatesAreNormal := by
  refine ⟨State.poweredOn_iff.mpr (by and_intros <;> rfl), fun s hs => ⟨.boot, inPhase_boot_iff.mpr ?_⟩⟩
  obtain ⟨hc, -, -, hwake, htick, hblink, hdly, hmotor, -, hw⟩ := State.poweredOn_iff.mp hs
  have hq := State.irqPending_eq_false hwake htick (by simp [State.readBlinkIe, hblink])
  exact ⟨hc, hw, hdly, hwake, hq, hmotor⟩

end Sys2Proof.Machine


/-! SUPPORT. The invariants of 10_state.md rule R29 along every run from a power-on: one invariant over history and state, kept
by every move, and the clauses read off it. -/

namespace Sys2Proof.Machine

variable {s t : State} {h : History}

/-! ## The invariant of the runs -/

/-- The invariant behind 10_state.md rule R29 that runs keep: a place of the normal cycle, and what the history says of the
registers. -/
structure Tracks (h : History) (s : State) : Prop where
  normal : s.normal
  bounded : h.woken = true → s.tick.toNat ≤ 64
  woken : s.state = 3#3 → h.woken = true
  completed : s.profileI.toNat = h.completed % 8
  delay : s.wait = .delay ↔ h.delayArmed = true
  driving : s.motorOn = true → h.driving = true

/-- A move that leaves alone what the history speaks of keeps the invariant. -/
theorem Tracks.of_frame (hT : Tracks h s) (hn : t.normal) (htick : t.tick = s.tick) (hprofile : t.profileI = s.profileI)
    (hmotor : t.motorOn = s.motorOn) (hwait : t.wait = .delay ↔ s.wait = .delay) (hstate : t.state = 3#3 → s.state = 3#3) :
    Tracks h t where
  normal := hn
  bounded := htick ▸ hT.bounded
  woken := hT.woken ∘ hstate
  completed := hprofile ▸ hT.completed
  delay := hwait.trans hT.delay
  driving := hmotor ▸ hT.driving

/-! ## Dispatches during the cycle -/

theorem State.normal.waiting_of_tickRequest (hn : s.normal) (hr : s.tickRequest = true) : s.inPhase .waiting = true := by
  have hq : s.irqPending = true := by simp [State.irqPending, hr]
  obtain ⟨hie, -⟩ := Bool.and_eq_true_iff.mp hr
  obtain ⟨ph, h⟩ := hn
  cases ph <;> simp_all [State.inPhase]

/-- No dispatch ends the settling delay. -/
theorem dispatch_wait_delay (s : State) : (dispatch s).wait = .delay ↔ s.wait = .delay := by
  obtain heq | ⟨hnone, hcause⟩ := dispatch_wait_cases s
  · rw [heq]
  · obtain ⟨-, hw⟩ | ⟨-, hw⟩ | ⟨-, hw⟩ := hcause <;> simp [hnone, hw]

/-- In the normal cycle only playback is led to Tock by a dispatch. -/
theorem State.normal.state_of_dispatch_tock (hn : s.normal) (hc : (dispatch s).state = 3#3) : s.state = 3#3 := by
  cases hr : s.tickRequest
  case true =>
    exact (inPhase_waiting_iff.mp (hn.waiting_of_tickRequest hr)).1
  case false =>
    rw [dispatch_state, if_neg fun h => hn.wait_ne_blink h.2, if_neg (by simp [hr])] at hc
    split_ifs at hc
    · cases hc
    · exact hc

/-! ## The invariant along a run -/

/-- Every move keeps the invariant, the history following the move. -/
theorem Tracks.step (hT : Tracks h s) (henv : s.envOk = true) (hstep : step s = .next t) :
    Tracks (h.after s s.nextMove) t := by
  have hn := normalCycleKept s t hT.normal henv hstep
  cases transition_of_step hstep with
  | wakeEdge hd hm | tickOvf hd hm | blinkOvf hd hm | idle hr hm =>
    rw [hm]
    exact hT.of_frame hn rfl rfl rfl .rfl id
  | delayDone hd hm =>
    rw [hm]
    have hended : (if s.wait = .delay then Wait.none else s.wait) ≠ .delay := by
      split_ifs with hw
      · exact nofun
      · exact hw
    exact { hT with normal := hn, delay := iff_of_false hended nofun }
  | reset hd hm =>
    rw [hm]
    exact ⟨hn, nofun, nofun, rfl, iff_of_false nofun nofun, nofun⟩
  | dispatch hd hq hm =>
    rw [hm]
    exact hT.of_frame hn (by simp) (by simp) (by simp) (dispatch_wait_delay _) (hT.normal.enter _).state_of_dispatch_tock
  | settleDone hs hdly hm =>
    rw [hm]
    exact hT.of_frame hn rfl rfl rfl .rfl nofun
  | gotosleep hs hdly hc hm =>
    rw [hm]
    exact { hT with normal := hn, delay := iff_of_true rfl rfl, driving := nofun }
  | sleep hs hdly hc hm | lightsleep hs hdly hc hm =>
    rw [hm]
    exact hT.of_frame hn rfl rfl rfl (by simp [hs.running]) id
  | wakeup hs hdly hc hm =>
    rw [hm]
    exact { hT with normal := hn, bounded := fun _ => Nat.zero_le 64, woken := fun _ => rfl }
  | tockStepping hs hdly hc hm ht =>
    have hp : ¬ s.playbackDone = true := by rw [s.playbackDone_iff]; omega
    have hafter : h.after s (.operation .tock) = { h with driving := true } := if_neg hp
    rw [hm, hafter]
    exact
      { hT with
        normal := hn
        bounded := fun _ => (nextTick_toNat ht).trans_le ht
        delay := by simp [← hT.delay, hs.running]
        driving := fun _ => rfl }
  | tockFinal hs hdly hc hm ht =>
    have hafter : h.after s (.operation .tock) = { h with completed := h.completed + 1 } :=
      if_pos (s.playbackDone_iff.mpr ht)
    have hcount := hT.completed
    rw [hm, hafter]
    exact
      { hT with
        normal := hn
        woken := nofun
        completed := by simp [nextProfile, hcount] }
  | recover i hs hdly hc => exact absurd hT.normal.state_lt (by omega)

theorem Tracks.powerOn (hs : s.poweredOn = true) : Tracks History.fresh s := by
  obtain ⟨hc, hp, -, -, -, -, -, hmotor, -, hw⟩ := State.poweredOn_iff.mp hs
  exact
    { normal := powerOnStatesAreNormal.2 s hs
      bounded := nofun
      woken := by simp [hc]
      completed := by simp [hp, History.fresh]
      delay := by simp [hw, History.fresh]
      driving := by simp [hmotor] }

/-- No clause reads the stimulus. -/
theorem Tracks.choose (hT : Tracks h s) (l : List Turn) : Tracks h { s with stimulus := l } :=
  hT.of_frame (hT.normal.imp fun ph hp => by cases ph <;> exact hp) rfl rfl rfl .rfl id

theorem tracks_of_run (hr : Run h s) : Tracks h s := by
  induction hr with
  | powerOn s hs => exact .powerOn hs
  | choose h s l _ ih => exact ih.choose l
  | move h s t _ henv hstep ih => exact ih.step henv hstep

/-! ## What the clauses speak of -/

/-- R29 (e): the wake pin is armed in Sleep only, everything else being off. -/
theorem State.normal.only_wake_of_wakeIe (hn : s.normal) (hw : s.wakeIe = true) :
    s.state = 1#3 ∧ s.tickIe = false ∧ s.readBlinkIe = false ∧ s.tickRun = false ∧ s.readBlinkRun = false ∧
      s.dly = false ∧ s.motorOn = false := by
  obtain ⟨ph, h⟩ := hn
  cases ph <;> simp_all [State.inPhase, State.playbackArmed, State.quiet]

/-- Without an event an operation is the sequencer's, the one that `dly` and `state` select (30_encoding.md rule R68). -/
theorem operation_of_noEvent {i : Instr} (hd : s.dueEvent = none) (hm : s.nextMove = .operation i) :
    i = if s.dly then .settleDone s.state else decodeStateCode s.params.hasBlink s.state := by
  obtain ⟨c, j, hd', -⟩ | ⟨c, r, hd', -⟩ | ⟨-, -, hm'⟩ | ⟨-, -, -, hm'⟩ | ⟨-, -, hm'⟩ := s.nextMove_cases
  · cases hd'.symm.trans hd
  · cases hd'.symm.trans hd
  · cases hm'.symm.trans hm
  · cases hm'.symm.trans hm
    exact decodeS_decodeWord ..
  · cases hm'.symm.trans hm

theorem dueEvent_of_tock (hm : s.nextMove = .operation .tock) : s.dueEvent = none := by
  obtain ⟨c, i, -, hi, hm'⟩ | ⟨c, r, -, -, hm'⟩ | ⟨hd, -⟩ | ⟨hd, -⟩ | ⟨hd, -⟩ := s.nextMove_cases
  · cases hm'.symm.trans hm
    simpa using decodeV_ok_cases hi
  · cases hm'.symm.trans hm
  all_goals exact hd

theorem state_of_tock (hm : s.nextMove = .operation .tock) : s.state = 3#3 := by
  have only_three : ∀ (b : Bool) (c : StateCode), decodeStateCode b c = .tock → c = 3#3 := by decide
  have hi := operation_of_noEvent (dueEvent_of_tock hm) hm
  split at hi
  · cases hi
  · exact only_three _ _ hi.symm

/-- R29 (d): the sequencer decodes legal codes only. -/
theorem State.normal.decodes_legal {i : Instr} (hn : s.normal) (hd : s.dueEvent = none) (hm : s.nextMove = .operation i) :
    i ≠ .lightsleep ∧ i ≠ .recoverFive ∧ i ≠ .recoverFour ∧ ∀ low, i ≠ .recoverHigh low := by
  have legal : ∀ (b : Bool) (c : StateCode), c.toNat < 4 →
      decodeStateCode b c ≠ .lightsleep ∧ decodeStateCode b c ≠ .recoverFive ∧ decodeStateCode b c ≠ .recoverFour ∧
        ∀ low, decodeStateCode b c ≠ .recoverHigh low := by decide
  have hi := operation_of_noEvent hd hm
  split at hi
  · simp [hi]
  · exact hi ▸ legal _ _ hn.state_lt

/-- Settles O51: every clause is one of the run's invariant, or one of the place it names. -/
theorem runsKeepInvariants : Obligations.RunsKeepInvariants := by
  intro h s hr
  have hT := tracks_of_run hr
  have hn := hT.normal
  refine ⟨hT.bounded, fun t => tick_lt_of_lookup, fun hm => hT.woken (state_of_tock hm), hT.completed,
    fun i hd hm => ⟨.inl hn.state_lt, hn.decodes_legal hd hm⟩, hn.only_wake_of_wakeIe, fun hw => ?_, fun hw => ?_,
    hT.delay, fun hd => ?_, hT.driving⟩
  · obtain ⟨hc, -, -, hwake, -⟩ := inPhase_asleep_iff.mp (hn.asleep_of_wait hw)
    exact ⟨hwake, hc⟩
  · obtain ⟨-, -, hplay, -⟩ := inPhase_waiting_iff.mp (hn.waiting_of_wait hw)
    obtain ⟨hie, hrun, -⟩ := State.playbackArmed_iff.mp hplay
    exact ⟨hie, hrun⟩
  · obtain ⟨htick, hblink, -⟩ := State.quiet_iff.mp (hn.quiet_of_dly hd)
    exact ⟨htick, hblink⟩

end Sys2Proof.Machine


/-! SUPPORT. The profile ROM (20_memory.md): its two views, by words and by bytes, and that nothing writes it. -/

namespace Sys2Proof.Machine

/-! ## Words and bytes -/

/-- Byte `b` of a profile stands above the `8b` bits of the bytes below it (20_memory.md rule R43). -/
theorem Memory.profile_getLsbD (m : Memory) (p : ProfileIndex) {b j : Nat} (hb : b < 8) (hj : j < 8) :
    (m.profile p).getLsbD (8 * b + j) = (m.profileByte p b).getLsbD j := by
  unfold Memory.profile
  interval_cases b <;> simp (disch := omega) only [BitVec.getLsbD_append, if_pos, if_neg] <;> congr 1 <;> omega

theorem shiftRight_and_one_eq_one_iff (w : ProfileWord) (k : Nat) : (w >>> k) &&& 1#64 = 1#64 ↔ w.getLsbD k = true := by
  rw [BitVec.and_one_eq_setWidth_ofBool_getLsbD, BitVec.getLsbD_ushiftRight, Nat.add_zero]
  cases w.getLsbD k <;> decide

/-- Settles O32: tick `t` is bit `t mod 8` of byte `t div 8` of its profile, and profile `p` starts at byte `8p`. -/
theorem romByteViewOrder : Obligations.RomByteViewOrder := by
  intro m p t
  have hb : t.toNat / 8 < 8 := Nat.div_lt_of_lt_mul t.isLt
  have hj : t.toNat % 8 < 8 := Nat.mod_lt _ (by decide)
  calc romRead m p t = (m.profile p).getLsbD (8 * (t.toNat / 8) + t.toNat % 8) := by rw [Nat.div_add_mod, romRead]
    _ = (m.profileByte p (t.toNat / 8)).getLsbD (t.toNat % 8) := m.profile_getLsbD p hb hj
    _ = (m.read (8 * p.toNat + t.toNat / 8)).getLsbD (t.toNat % 8) := rfl

/-- Settles O31: `romRead` reads the word, and shifting bit `t` down to bit 0 and masking it tests the same bit. -/
theorem romReadIsWordBit : Obligations.RomReadIsWordBit :=
  fun m p t => ⟨rfl, (shiftRight_and_one_eq_one_iff (m.profile p) t.toNat).symm⟩

/-! ## What no step writes -/

/-- Settles O34: neither the ROM nor the options stand among the fields that a transition updates. -/
theorem stepKeepsRomAndOptions : Obligations.StepKeepsRomAndOptions := by
  intro s t h
  cases transition_of_step h with
  | dispatch => simp
  | _ => exact ⟨rfl, rfl⟩

end Sys2Proof.Machine


/-! SUPPORT. The encoding (30_encoding.md): decoding after encoding, the table's words, which codes name an event, and the
step that an event's code selects. -/

namespace Sys2Proof

/-! ## Decoding after encoding -/

theorem decodeS_settleDone_word (b : Bool) (code : StateCode) : decodeS b (1#1 ++ code) = .settleDone code := by
  have top_bit : (1#1 ++ code : DecodeWord).getLsbD 3 = true := by
    revert code
    decide
  have low_bits : (1#1 ++ code : DecodeWord).extractLsb' 0 3 = code := BitVec.extractLsb'_append_eq_right
  rw [decodeS, if_pos top_bit, low_bits]

theorem decodeS_recoverHigh_word (b : Bool) (low : BitVec 1) : decodeS b (0b011#3 ++ low) = .recoverHigh low := by
  revert b low
  decide

theorem decodeA_address (p : ProfileIndex) (t : TickIndex) : decodeA (p ++ t) = .pbit p t := by
  have high_bits : (p ++ t : RomAddress).extractLsb' 6 3 = p := BitVec.extractLsb'_append_eq_left
  have low_bits : (p ++ t : RomAddress).extractLsb' 0 6 = t := BitVec.extractLsb'_append_eq_right
  rw [decodeA, high_bits, low_bits]

/-- Settles O2, row by row of the table: three rows have open bits, four look at `HAS_BLINK`, the others are fixed words. -/
theorem encodedOperationDecodesBack : Obligations.EncodedOperationDecodesBack := by
  intro b i hwf
  cases i with
  | settleDone code => exact congrArg Except.ok (decodeS_settleDone_word b code)
  | recoverHigh low => exact congrArg Except.ok (decodeS_recoverHigh_word b low)
  | pbit p t => exact congrArg Except.ok (decodeA_address p t)
  | lightsleep | irqBlink | evBlinkOvf =>
    obtain rfl : b = true := hwf
    rfl
  | recoverFour =>
    obtain rfl : b = false := by simpa [Instr.wellFormed] using hwf
    rfl
  | _ => rfl

/-- Settles O1: each word is decoded by evaluation. -/
theorem specWordsDecode : Obligations.SpecWordsDecode := by
  unfold Obligations.SpecWordsDecode
  and_intros <;> rfl

/-! ## The codes that name an event -/

theorem exists_decodeV_ok_iff {b : Bool} {c : EventCode} :
    (∃ i, decodeV b c = .ok i) ↔ c = 1#3 ∨ c = 2#3 ∨ (c = 3#3 ∧ b = true) ∨ c = 4#3 ∨ c = 7#3 := by
  constructor
  · rintro ⟨i, hi⟩
    obtain ⟨h, -⟩ | ⟨h, -⟩ | ⟨h, hb, -⟩ | ⟨h, -⟩ | ⟨h, -⟩ := decodeV_ok_cases hi <;> simp [*]
  · rintro (rfl | rfl | ⟨rfl, rfl⟩ | rfl | rfl) <;> exact ⟨_, rfl⟩

theorem decodeV_unassigned {b : Bool} {c : EventCode} (h : c = 0#3 ∨ (c = 3#3 ∧ b = false) ∨ c = 5#3 ∨ c = 6#3) :
    decodeV b c = .error (.unassignedEvent c) := by
  obtain rfl | ⟨rfl, rfl⟩ | rfl | rfl := h <;> rfl

namespace Machine

variable {s : State} {c : EventCode}

theorem step_of_due {i : Instr} (hd : s.dueEvent = some c) (hi : decodeV s.params.hasBlink c = .ok i) :
    step s = exec i (s.enter s.restStimulus) :=
  step_of_operation (State.nextMove_of_due hd hi)

/-- Settles O5, code by code, by what `decodeV` says of the code due. -/
theorem stepDeliversDueEvent : Obligations.StepDeliversDueEvent := by
  intro s c hd
  refine ⟨?_, ?_, ?_, ?_, ?_, fun hbad => ?_⟩
  · rintro rfl
    exact step_of_due hd rfl
  · rintro rfl
    exact step_of_due hd rfl
  · rintro rfl hb
    exact step_of_due hd (by rw [hb]; rfl)
  · rintro rfl
    exact step_of_due hd rfl
  · rintro rfl
    exact step_of_due hd rfl
  · have hr := decodeV_unassigned (b := s.params.hasBlink) (c := c) (by tauto)
    exact step_of_malformed (State.nextMove_of_malformed hd hr)

end Machine

end Sys2Proof


/-! SUPPORT. Running to rest (30_encoding.md rule R70): how many moves the block can still take before it is at rest, and the
recorded run of a stimulus trace. -/

namespace Sys2Proof.Machine

variable {s t u : State} {n : Nat}

/-! ## A step answers -/

theorem exec_answers {i : Instr} (hi : i.wellFormed s.params.hasBlink = true) : ∃ t, exec i s = .next t := by
  cases i with
  | lightsleep => exact ⟨_, exec_lightsleep hi⟩
  | irqBlink => exact ⟨_, exec_irqBlink hi⟩
  | evBlinkOvf => exact ⟨_, exec_evBlinkOvf hi⟩
  | _ => exact ⟨_, rfl⟩

theorem decodeStateCode_wellFormed (b : Bool) (code : StateCode) : (decodeStateCode b code).wellFormed b = true := by
  revert b code
  decide

theorem decodeS_wellFormed (b : Bool) (w : DecodeWord) : (decodeS b w).wellFormed b = true := by
  unfold decodeS
  split
  · rfl
  · exact decodeStateCode_wellFormed b _

theorem decodeV_wellFormed {b : Bool} {c : EventCode} {i : Instr} (h : decodeV b c = .ok i) : i.wellFormed b = true := by
  obtain ⟨-, rfl⟩ | ⟨-, rfl⟩ | ⟨-, rfl, rfl⟩ | ⟨-, rfl⟩ | ⟨-, rfl⟩ := decodeV_ok_cases h <;> rfl

/-- A step is refused only for an unassigned code. -/
theorem step_answers (h : ∀ c, s.dueEvent = some c → ∃ i, decodeV s.params.hasBlink c = .ok i) : ∃ t, step s = .next t := by
  obtain ⟨c, i, -, hi, hm⟩ | ⟨c, r, hd, hr, -⟩ | ⟨-, -, hm⟩ | ⟨-, -, -, hm⟩ | ⟨-, -, hm⟩ := s.nextMove_cases
  · rw [step_of_operation hm]
    exact exec_answers (decodeV_wellFormed hi)
  · obtain ⟨i, hi⟩ := h c hd
    cases hr.symm.trans hi
  · exact ⟨_, step_of_dispatch hm⟩
  · rw [step_of_operation hm]
    exact exec_answers (decodeS_wellFormed _ _)
  · exact ⟨_, step_of_idle hm⟩

/-! ## Rest and what steps keep -/

theorem State.irqPending_eq_false_iff_irq_eq_zero : s.irqPending = false ↔ s.irq = 0#3 := by
  rw [← Bool.not_eq_true, s.irqPending_iff_irq_ne_zero, not_ne_iff]

theorem State.atRest_iff_irq : s.atRest = true ↔ s.irq = 0#3 ∧ s.wait ≠ .none := by
  rw [s.atRest_iff, State.irqPending_eq_false_iff_irq_eq_zero]

theorem stimulus_of_step (h : step s = .next t) : t.stimulus = s.restStimulus := by
  cases transition_of_step h with
  | dispatch => simp
  | _ => rfl

theorem steps_keeps {P : State → Prop} (hP : ∀ s t, P s → step s = .next t → P t) (hs : P s)
    (h : steps n s = .next t) : P t := by
  induction n generalizing s with
  | zero => cases h; exact hs
  | succ n ih =>
    rcases hu : step s with u | r | r <;> simp only [steps, hu] at h
    · exact ih (hP s u hs hu) h
    · cases h
    · cases h

/-! ## The moves left before rest -/

/-- The operation leaves the sequencer suspended (41_sequencer.md rules R101, R102, R104, R105). -/
def State.suspendsBy (s : State) : Instr → Bool
  | .gotosleep => true
  | .sleep => true
  | .lightsleep => true
  | .tock => !s.playbackDone
  | _ => false

/-- A bound on the moves the block takes before it is at rest: a dispatch and two operations while a source requests; none
while suspended; one operation where that operation suspends, else two (30_encoding.md rule R70, 41_sequencer.md rule
R107). -/
def State.movesToRest (s : State) : Nat :=
  if s.irqPending then 3
  else if s.wait ≠ .none then 0
  else if s.suspendsBy (decodeS s.params.hasBlink s.decodeWord) then 1
  else 2

theorem State.movesToRest_le_three (s : State) : s.movesToRest ≤ 3 := by
  unfold State.movesToRest
  split_ifs <;> omega

theorem State.movesToRest_le_two (hq : s.irqPending = false) : s.movesToRest ≤ 2 := by
  rw [State.movesToRest, if_neg (by simp [hq])]
  split_ifs <;> omega

theorem State.movesToRest_eq_zero_iff : s.movesToRest = 0 ↔ s.atRest = true := by
  rw [State.atRest_iff, State.movesToRest]
  split_ifs <;> simp_all

/-- GOTOSLEEP, SLEEP or a stepping TOCK is next. -/
theorem State.movesToRest_eq_one (hq : s.irqPending = false) (hw : s.wait = .none) (hdly : s.dly = false)
    (hc : s.state = 0#3 ∨ s.state = 1#3 ∨ (s.state = 3#3 ∧ s.playbackDone = false)) : s.movesToRest = 1 := by
  obtain h | h | ⟨h, hp⟩ := hc <;>
    simp [State.movesToRest, decodeS_decodeWord, decodeStateCode, State.suspendsBy, *]

/-- An operation is next that does not suspend. -/
theorem State.SequencerTurn.movesToRest_eq_two (hs : s.SequencerTurn) {i : Instr} (hm : s.nextMove = .operation i)
    (hi : s.suspendsBy i = false) : s.movesToRest = 2 := by
  have hdec : decodeS s.params.hasBlink s.decodeWord = i := by
    simpa [State.nextMove_of_running hs.noEvent hs.noRequest hs.running] using hm
  simp [State.movesToRest, hs.noRequest, hs.running, hdec, hi]

theorem movesToRest_lt_of_suspended (hr : s.atRest = false) (hq : t.irqPending = false) (hw : t.wait ≠ .none) :
    t.movesToRest < s.movesToRest := by
  have hs : s.movesToRest ≠ 0 := by simp [State.movesToRest_eq_zero_iff, hr]
  have ht : t.movesToRest = 0 := State.movesToRest_eq_zero_iff.mpr (t.atRest_iff.mpr ⟨hq, hw⟩)
  omega

theorem movesToRest_lt_of_suspends_next (hs : s.movesToRest = 2) (hq : t.irqPending = false) (hw : t.wait = .none)
    (hdly : t.dly = false) (hc : t.state = 0#3 ∨ t.state = 1#3 ∨ (t.state = 3#3 ∧ t.playbackDone = false)) :
    t.movesToRest < s.movesToRest := by
  have ht := State.movesToRest_eq_one hq hw hdly hc
  omega

/-- Every move of the block brings rest nearer. -/
theorem movesToRest_lt_of_step (hd : s.dueEvent = none) (hr : s.atRest = false) (h : step s = .next t) :
    t.movesToRest < s.movesToRest := by
  cases transition_of_step h with
  | wakeEdge he | tickOvf he | blinkOvf he | delayDone he | reset he => cases hd.symm.trans he
  | idle hrest => cases hr.symm.trans hrest
  | dispatch _ hq =>
    have h3 : s.movesToRest = 3 := if_pos hq
    have h2 := State.movesToRest_le_two (dispatch_irqPending (s.enter s.restStimulus))
    omega
  | gotosleep hs | sleep hs | lightsleep hs | tockStepping hs => exact movesToRest_lt_of_suspended hr hs.noRequest nofun
  | settleDone hs _ hm =>
    exact movesToRest_lt_of_suspends_next (hs.movesToRest_eq_two hm rfl) rfl hs.running rfl (.inr (.inl rfl))
  | wakeup hs hdly _ hm =>
    refine movesToRest_lt_of_suspends_next (hs.movesToRest_eq_two hm rfl) ?_ hs.running hdly (.inr (.inr ⟨rfl, rfl⟩))
    simp [State.irqPending, State.wakeRequest, State.tickRequest, State.blinkRequest, State.readBlinkIf]
  | tockFinal hs hdly _ hm ht =>
    have hi : s.suspendsBy .tock = false := by simp [State.suspendsBy, s.playbackDone_iff.mpr ht]
    exact movesToRest_lt_of_suspends_next (hs.movesToRest_eq_two hm hi) hs.noRequest hs.running hdly (.inl rfl)
  | recover i hs hdly _ hi hm =>
    have hi : s.suspendsBy i = false := by obtain rfl | ⟨low, rfl⟩ | rfl := hi <;> rfl
    exact movesToRest_lt_of_suspends_next (hs.movesToRest_eq_two hm hi) hs.noRequest hs.running hdly (.inl rfl)

/-! ## The recorded run of a trace -/

variable {c : EventCode} {codes : List EventCode}

theorem dueEvent_of_rest (hst : s.stimulus = traceOf (c :: codes)) (hr : s.atRest = true) :
    s.dueEvent = some c ∧ s.restStimulus = traceOf codes := by
  simp [State.dueEvent, State.restStimulus, hst, traceOf, hr]

theorem dueEvent_of_moving (hst : s.stimulus = traceOf codes) (hr : s.atRest = false) :
    s.dueEvent = none ∧ s.restStimulus = s.stimulus := by
  cases codes <;> simp [State.dueEvent, State.restStimulus, hst, traceOf, hr]

/-- The events of a trace are delivered at rest, in order. -/
theorem atRest_of_due {d : EventCode} (hst : s.stimulus = traceOf codes) (hd : s.dueEvent = some d) : s.atRest = true := by
  by_contra hr
  cases hd.symm.trans (dueEvent_of_moving hst (by simpa using hr)).1

theorem trace_of_step (hst : s.stimulus = traceOf codes) (h : step s = .next t) : ∃ rest, t.stimulus = traceOf rest := by
  rw [stimulus_of_step h]
  cases hr : s.atRest
  case false => exact ⟨codes, (dueEvent_of_moving hst hr).2.trans hst⟩
  case true =>
    cases codes with
    | nil => exact ⟨[], by simp [State.restStimulus, hst, traceOf]⟩
    | cons c codes => exact ⟨codes, (dueEvent_of_rest hst hr).2⟩

theorem State.performs_of_malformed {r : Reject} (hd : s.dueEvent = some c) (hr : decodeV s.params.hasBlink c = .error r) :
    s.performs = .nothing := by
  simp [State.performs, hd, hr]

theorem State.performs_of_atRest (hd : s.dueEvent = none) (hr : s.atRest = true) : s.performs = .nothing := by
  obtain ⟨hq, hw⟩ := s.atRest_iff.mp hr
  simp [State.performs, hd, State.blockPerforms, State.blockMove, hq, hw]

/-- A step of a machine that is not at rest is a dispatch or an operation. -/
theorem performs_of_moving (hd : s.dueEvent = none) (hr : s.atRest = false) :
    (∃ l, s.performs = .dispatch l) ∨ ∃ i, s.performs = .operation i := by
  cases hq : s.irqPending
  case true => exact .inl ⟨_, State.performs_of_request hd hq⟩
  case false =>
    have hw : s.wait = .none := by simpa [State.atRest, hq] using hr
    exact .inr ⟨_, State.performs_of_running hd hq hw⟩

/-- Between two events of a trace the block moves, nearer to rest. -/
theorem block_step_of_trace (hst : s.stimulus = traceOf codes) (hr : s.atRest = false) :
    ∃ t, step s = .next t ∧ t.params = s.params ∧ t.stimulus = traceOf codes ∧ t.movesToRest < s.movesToRest := by
  obtain ⟨hd, hrest⟩ := dueEvent_of_moving hst hr
  obtain ⟨t, ht⟩ := step_answers (s := s) (by simp [hd])
  exact ⟨t, ht, (stepKeepsRomAndOptions s t ht).2, by rw [stimulus_of_step ht, hrest, hst], movesToRest_lt_of_step hd hr ht⟩

/-- At rest the first event of a trace is delivered. -/
theorem event_step_of_trace {i : Instr} (hst : s.stimulus = traceOf (c :: codes)) (hr : s.atRest = true)
    (hi : decodeV s.params.hasBlink c = .ok i) :
    ∃ t, step s = .next t ∧ t.params = s.params ∧ t.stimulus = traceOf codes ∧ s.performs = .event i := by
  obtain ⟨hd, hrest⟩ := dueEvent_of_rest hst hr
  obtain ⟨t, ht⟩ := step_answers (s := s) (by simp [hd, hi])
  exact ⟨t, ht, (stepKeepsRomAndOptions s t ht).2, by rw [stimulus_of_step ht, hrest], State.performs_of_due hd hi⟩

/-- The recorded run of a trace ends at rest, shows the trace's events, and has no step that performs nothing. -/
theorem recordToRest_trace (hst : s.stimulus = traceOf codes) (hc : ∀ c ∈ codes, ∃ i, decodeV s.params.hasBlink c = .ok i)
    (hn : s.movesToRest + 4 * codes.length ≤ n) :
    ∃ log u, recordToRest n s = .next (log, u) ∧ u.atRest = true ∧ u.stimulus = [] ∧
      (eventsOf log).map Except.ok = codes.map (decodeV s.params.hasBlink) ∧ ∀ e ∈ log, e.performed ≠ .nothing := by
  induction n generalizing s codes with
  | zero =>
    obtain rfl : codes = [] := List.length_eq_zero_iff.mp (by omega)
    have hr : s.atRest = true := State.movesToRest_eq_zero_iff.mp (by omega)
    exact ⟨[], s, rfl, hr, hst, rfl, by simp⟩
  | succ n ih =>
    cases hr : s.atRest
    case false =>
      obtain ⟨t, ht, hparams, hts, hlt⟩ := block_step_of_trace hst hr
      rw [← hparams] at hc ⊢
      obtain ⟨log, u, hrec, hu, hus, hev, hperf⟩ := ih hts hc (by omega)
      have hrec' := recordToRest_of_step (by simp [hr]) ht hrec
      obtain ⟨l, hp⟩ | ⟨i, hp⟩ := performs_of_moving (dueEvent_of_moving hst hr).1 hr <;> rw [hp] at hrec'
      · exact ⟨_, u, hrec', hu, hus, hev, by simpa using hperf⟩
      · exact ⟨_, u, hrec', hu, hus, hev, by simpa using hperf⟩
    case true =>
      cases codes with
      | nil => exact ⟨[], s, recordToRest_of_rest _ hst hr, hr, hst, rfl, by simp⟩
      | cons c codes =>
        obtain ⟨⟨i, hi⟩, hcodes⟩ := List.forall_mem_cons.mp hc
        obtain ⟨t, ht, hparams, hts, hp⟩ := event_step_of_trace hst hr hi
        have h3 := t.movesToRest_le_three
        rw [List.length_cons] at hn
        rw [← hparams] at hcodes hi ⊢
        obtain ⟨log, u, hrec, hu, hus, hev, hperf⟩ := ih hts hcodes (by omega)
        have hrec' := recordToRest_of_step (by simp [hst, traceOf]) ht hrec
        rw [hp] at hrec'
        exact ⟨_, u, hrec', hu, hus, by simp [hev, hi], by simpa using hperf⟩

/-- What the entry of a step says it performed, while a trace is delivered. -/
theorem performs_cases (hst : s.stimulus = traceOf codes) (hne : s.performs ≠ .nothing) :
    (s.irq = 0#3 ∧ s.wait ≠ .none ∧ ∃ i, s.nextMove = .operation i ∧ s.performs = .event i) ∨
    (s.irq ≠ 0#3 ∧ s.performs = .dispatch (decodeServices s.params.hasBlink s.irq)) ∨
    (s.irq = 0#3 ∧ s.wait = .none ∧ s.performs = .operation (decodeS s.params.hasBlink s.decodeWord)) := by
  rw [← s.irqPending_iff_irq_ne_zero, ← State.irqPending_eq_false_iff_irq_eq_zero]
  obtain ⟨c, i, hd, hi, hm⟩ | ⟨c, r, hd, hr, -⟩ | ⟨hd, hq, -⟩ | ⟨hd, hq, hw, -⟩ | ⟨hd, hr, -⟩ := s.nextMove_cases
  · obtain ⟨hq, hw⟩ := s.atRest_iff.mp (atRest_of_due hst hd)
    exact .inl ⟨hq, hw, i, hm, State.performs_of_due hd hi⟩
  · exact absurd (State.performs_of_malformed hd hr) hne
  · exact .inr (.inl ⟨hq, State.performs_of_request hd hq⟩)
  · exact .inr (.inr ⟨hq, hw, State.performs_of_running hd hq hw⟩)
  · exact absurd (State.performs_of_atRest hd hr) hne

theorem rest_of_event (hst : s.stimulus = [.event c]) (hi : ∃ i, decodeV s.params.hasBlink c = .ok i) :
    ∃ n t, 1 ≤ n ∧ n ≤ 4 ∧ steps n s = .next t ∧ t.atRest = true := by
  have hd : s.dueEvent = some c := by simp [State.dueEvent, hst]
  obtain ⟨t, ht⟩ := step_answers (s := s) (by simpa [hd] using hi)
  have hts : t.stimulus = traceOf [] := by rw [stimulus_of_step ht]; simp [State.restStimulus, hst, traceOf]
  obtain ⟨log, u, hrec, hu, -⟩ := recordToRest_trace hts (by simp) t.movesToRest_le_three
  obtain ⟨hlen, hrun, -⟩ := recordToRest_log hrec
  exact ⟨log.length + 1, u, by omega, by omega, by simpa [steps, ht] using hrun, hu⟩

theorem respond_of_assigned (hc : ∀ c ∈ codes, ∃ i, decodeV s.params.hasBlink c = .ok i) :
    respond codes s = recordToRest (3 + 4 * codes.length) { s with stimulus := traceOf codes } := by
  simp [respond, firstUnassigned_eq_none.mpr hc, stepsToRest]

theorem respond_of_unassigned (hc : ∃ c ∈ codes, ∃ r, decodeV s.params.hasBlink c = .error r) :
    ∃ c ∈ codes, (∃ r, decodeV s.params.hasBlink c = .error r) ∧ respond codes s = .refused (.malformedStimulus c) := by
  rcases hf : firstUnassigned s.params.hasBlink codes with _ | c
  · obtain ⟨c, hmem, r, hr⟩ := hc
    obtain ⟨i, hi⟩ := firstUnassigned_eq_none.mp hf c hmem
    cases hr.symm.trans hi
  · obtain ⟨hmem, hr⟩ := firstUnassigned_mem hf
    exact ⟨c, hmem, hr, by simp [respond, hf]⟩

/-- While a trace is delivered the options stay and what is left of the stimulus is a trace. -/
theorem trace_of_steps (hst : s.stimulus = traceOf codes) (h : steps n s = .next t) :
    t.params = s.params ∧ ∃ rest, t.stimulus = traceOf rest :=
  steps_keeps (P := fun v => v.params = s.params ∧ ∃ rest, v.stimulus = traceOf rest)
    (fun v w hv hw => ⟨(stepKeepsRomAndOptions v w hw).2.trans hv.1, hv.2.elim fun _ hrest => trace_of_step hrest hw⟩)
    ⟨rfl, codes, hst⟩ h

/-- Settles O55, by the recorded run of the trace and the bound on the moves to rest. -/
theorem eventRunsToRest : Obligations.EventRunsToRest := by
  refine ⟨fun s c hst _ _ hc => ?_, fun s codes hc => ?_, fun s codes ⟨c, hmem, hc⟩ => ?_⟩
  · simpa only [State.atRest_iff_irq] using rest_of_event hst (exists_decodeV_ok_iff.mpr hc)
  · have hok : ∀ c ∈ codes, ∃ i, decodeV s.params.hasBlink c = .ok i := fun c hmem => exists_decodeV_ok_iff.mpr (hc c hmem)
    let s₀ : State := { s with stimulus := traceOf codes }
    obtain ⟨log, t, hrec, hrest, hts, hev, hperf⟩ := recordToRest_trace (s := s₀) rfl hok
      (Nat.add_le_add_right s₀.movesToRest_le_three _)
    obtain ⟨hlen, hrun, hlog⟩ := recordToRest_log hrec
    obtain ⟨hq, hw⟩ := State.atRest_iff_irq.mp hrest
    refine ⟨log, t, (respond_of_assigned hok).trans hrec, hq, hw, hts, hlen, hrun, hev, fun k e hk => ?_⟩
    obtain ⟨u, v, hu, hv, rfl⟩ := hlog k e hk
    obtain ⟨hparams, rest, hus⟩ := trace_of_steps (s := s₀) rfl hu
    have hcases := performs_cases hus (hperf _ (List.mem_of_getElem? hk))
    rw [hparams] at hcases
    exact ⟨u, v, hu, hv, rfl, hcases⟩
  · obtain ⟨d, hd, ⟨r, hr⟩, hresp⟩ := respond_of_unassigned (s := s) ⟨c, hmem, _, decodeV_unassigned hc⟩
    exact ⟨d, hd, decodeV_error_cases hr, hresp⟩

end Sys2Proof.Machine


/-! SUPPORT. The interrupt dispatcher (40_dispatcher.md): the events that latch a flag, the services one by one, and that a
dispatch performs the selected ones in order. -/

namespace Sys2Proof.Machine

variable {s t : State}

/-! ## The events that latch a flag -/

theorem State.irq_congr (hw : s.wakeRequest = t.wakeRequest) (ht : s.tickRequest = t.tickRequest)
    (hb : s.blinkRequest = t.blinkRequest) : s.irq = t.irq := by
  rw [State.irq, State.irq, hw, ht, hb]

/-- Settles O17: the flag enters `irq` only through its enable. -/
theorem wakeEdgeLatches : Obligations.WakeEdgeLatches := by
  refine ⟨fun _ => rfl, fun s => ⟨rfl, fun hie => ?_, fun hif => ?_, fun hie => ?_⟩⟩
  · exact State.irq_congr (by simp [State.wakeRequest, hie]) rfl rfl
  · exact congrArg (fun b => Host.Outcome.next { s with wakeIf := b }) hif.symm
  · simp [State.irq_bits, State.wakeRequest, hie]

/-- Settles O18: the flag enters `irq` only through its enable. -/
theorem tickOverflowLatches : Obligations.TickOverflowLatches := by
  refine ⟨fun _ => rfl, fun s => ⟨rfl, fun hie => ?_, fun hie => ?_⟩⟩
  · exact State.irq_congr rfl (by simp [State.tickRequest, hie]) rfl
  · simp [State.irq_bits, State.tickRequest, hie]

/-- Settles O19: on the blink variant the flag is written as given and enters `irq` only through its enable. -/
theorem blinkOverflowLatches : Obligations.BlinkOverflowLatches := by
  refine ⟨rfl, fun s hb => ⟨exec_evBlinkOvf hb, fun hie => ?_, fun hie => ?_⟩⟩
  · exact State.irq_congr rfl rfl (by simp [State.blinkRequest, State.readBlinkIe, hie])
  · simp [State.irq_bits, State.blinkRequest, State.readBlinkIe, State.readBlinkIf, hie, hb]

/-! ## Which services a dispatch selects -/

/-- The blink timer requests only where it exists (10_state.md rule R18). -/
theorem State.hasBlink_of_blinkRequest (h : s.blinkRequest = true) : s.params.hasBlink = true := by
  simp_all [State.blinkRequest, State.readBlinkIe]

theorem State.hasBlink_of_irq_bit (h : s.irq.getLsbD 2 = true) : s.params.hasBlink = true := by
  obtain ⟨-, -, hbit⟩ := s.irq_bits
  exact State.hasBlink_of_blinkRequest (hbit.symm.trans h)

/-- The selection read off the three requests; a request of the blink timer implies the variant. -/
theorem State.decodeServices_irq (s : State) :
    decodeServices s.params.hasBlink s.irq =
      (if s.wakeRequest then [Instr.irqWake] else []) ++ ((if s.tickRequest then [Instr.irqTick] else []) ++
        ((if s.blinkRequest then [Instr.irqBlink] else []) ++ [])) := by
  obtain ⟨hw, ht, hb⟩ := s.irq_bits
  have hand : (s.blinkRequest && s.params.hasBlink) = s.blinkRequest :=
    Bool.and_eq_left_iff_imp.mpr State.hasBlink_of_blinkRequest
  simp only [decodeServices, hw, ht, hb, hand, List.append_assoc, List.append_nil]

/-! ## A service on its own -/

theorem exec_irqWake (s : State) :
    exec .irqWake s =
      .next { s with wakeIf := false, wakeIe := false, state := 2#3, wait := if s.wait = .wake then .none else s.wait } := by
  simp [exec, execIrqWake, beginService, serveWake_eq, endService_eq]

theorem exec_irqTick (s : State) :
    exec .irqTick s =
      .next { s with tickIf := false, tickClr := true, state := 3#3, wait := if s.wait = .tick then .none else s.wait } := by
  simp [exec, execIrqTick, beginService, serveTick_eq, endService_eq]

theorem exec_irqBlink_record (hb : s.params.hasBlink = true) :
    exec .irqBlink s =
      .next { s with blinkIf := false, state := if s.wait = .blink then s.retState else s.state,
                     wait := if s.wait = .blink then .none else s.wait } := by
  simp [exec_irqBlink hb, serveBlink_eq, endService_eq]

/-- Settles O10, by the record update of the service. -/
theorem irqWakeService : Obligations.IrqWakeService :=
  fun s => ⟨by simp [decodeServices], exec_irqWake s⟩

/-- Settles O11, by the record update of the service. -/
theorem irqTickService : Obligations.IrqTickService :=
  fun s => ⟨by simp [decodeServices], exec_irqTick s⟩

/-- Settles O12: the bit of the blink timer is set on the blink variant only, so that the selection does not ask for it. -/
theorem irqBlinkService : Obligations.IrqBlinkService :=
  fun s => ⟨by simpa [decodeServices] using State.hasBlink_of_irq_bit, exec_irqBlink_record⟩

/-! ## The services of a dispatch, one after the other

Performed on its own, a service ends the suspension at once; inside a dispatch it leaves that to the end. Nothing that a later
service reads tells the two apart: it asks whether the suspension is its own, and a suspension has one designated source. -/

theorem exec_irqTick_endService (r : State × Bool) : exec .irqTick (endService r) = .next (endService (serveTick r)) := by
  obtain ⟨s, resume⟩ := r
  rw [exec_irqTick, serveTick_eq]
  cases resume <;> simp [endService_eq]

/-- IRQ_BLINK also reads `wait` for its request, so the resumption must not be its own. -/
theorem exec_irqBlink_endService {r : State × Bool} (hb : r.1.params.hasBlink = true)
    (hr : r.2 = true → r.1.wait ≠ .blink) : exec .irqBlink (endService r) = .next (endService (serveBlink r)) := by
  obtain ⟨s, resume⟩ := r
  rw [exec_irqBlink_record (by simpa [endService_eq] using hb), serveBlink_eq]
  cases resume
  · simp [endService_eq]
  · simp [endService_eq, hr rfl]

/-- A service that is selected or not, before the rest of the selection. -/
theorem performAll_selected {r : State × Bool} {serve : State × Bool → State × Bool} {p : Bool} {i : Instr}
    (l : List Instr) (h : p = true → exec i (endService r) = .next (endService (serve r))) :
    performAll ((if p then [i] else []) ++ l) (endService r) = performAll l (endService (if p then serve r else r)) := by
  cases p
  · rfl
  · simp [performAll, h rfl]

/-- Settles O14, service by service. -/
theorem dispatchPerformsSelectedServices : Obligations.DispatchPerformsSelectedServices := by
  intro s
  rw [s.decodeServices_irq, dispatch_eq]
  change performAll _ (endService (s, false)) = _
  rw [performAll_selected _ fun _ => rfl, performAll_selected _ fun _ => exec_irqTick_endService _,
    performAll_selected _ fun hb => exec_irqBlink_endService ?_ ?_]
  · rfl
  · -- no service writes the options
    cases s.wakeRequest <;> cases s.tickRequest <;> exact State.hasBlink_of_blinkRequest hb
  · -- a resumption so far is for the wake pin or the tick timer
    cases s.wakeRequest <;> cases s.tickRequest <;> simp +contextual [serveWake_eq, serveTick_eq, or_imp]

/-- A vector that selects one service makes the dispatch that service. -/
theorem exec_of_decodeServices_eq {i : Instr} (h : decodeServices s.params.hasBlink s.irq = [i]) :
    exec i s = .next (dispatch s) := by
  rw [← dispatchPerformsSelectedServices s, h, performAll]
  cases exec i s <;> rfl

/-! ## The step -/

/-- Settles O6: a request is due before the sequencer and whether or not it is suspended. -/
theorem stepDispatchesRequests : Obligations.StepDispatchesRequests :=
  fun s hd hq => step_of_dispatch (State.nextMove_of_request hd (s.irqPending_iff_irq_ne_zero.mpr hq))

/-- Where the vector selects one service, the step is that service (40_dispatcher.md rules R80, R87). -/
theorem step_of_loneService {i : Instr} (hd : s.dueEvent = none) (h : decodeServices s.params.hasBlink s.irq = [i]) :
    step s = exec i (s.enter s.restStimulus) := by
  have hq : s.irq ≠ 0#3 := fun h0 => by simp [h0, decodeServices] at h
  exact (stepDispatchesRequests s hd hq).trans (exec_of_decodeServices_eq (s := s.enter s.restStimulus) h).symm

/-- Settles O13: each of the three vectors selects one service. -/
theorem stepPerformsLoneService : Obligations.StepPerformsLoneService := by
  intro s hd
  refine ⟨fun hv => step_of_loneService hd ?_, fun hv => step_of_loneService hd ?_, fun hv => step_of_loneService hd ?_⟩
  · rw [hv]
    rfl
  · rw [hv]
    rfl
  · have hb : s.params.hasBlink = true := State.hasBlink_of_irq_bit (by rw [hv]; rfl)
    rw [hv, hb]
    rfl

/-! ## One dispatch -/

/-- Settles O15, by the record update of a dispatch. -/
theorem dispatchResult : Obligations.DispatchResult := by
  intro s
  obtain ⟨hw, ht, hb⟩ := s.irq_bits
  rw [hw, ht, hb]
  exact ⟨dispatch_record s, State.irqPending_eq_false_iff_irq_eq_zero.mp (dispatch_irqPending s)⟩

/-- Settles O16, by the frame of a dispatch. -/
theorem dispatcherTouchesNoPeripheral : Obligations.DispatcherTouchesNoPeripheral := by
  intro s
  refine ⟨(dispatch_wait_cases s).imp_right And.left, ?_⟩
  simp +contextual

/-! ## Timers in deep sleep -/

/-- In deep sleep only the wake pin is armed, so that without an edge nothing requests. -/
theorem rest_of_asleep (h : s.inPhase .asleep = true) (hif : s.wakeIf = false) : s.irq = 0#3 ∧ s.atRest = true := by
  obtain ⟨-, hwait, -, -, htick, hblink, -⟩ := inPhase_asleep_iff.mp h
  have hq : s.irqPending = false := by
    simp [State.irqPending, State.wakeRequest, State.tickRequest, State.blinkRequest, hif, htick, hblink]
  exact ⟨State.irqPending_eq_false_iff_irq_eq_zero.mp hq, s.atRest_iff.mpr ⟨hq, by simp [hwait]⟩⟩

/-- An event at the head of the stimulus is performed in this step. -/
theorem step_of_event {c : EventCode} {rest : List Turn} {i : Instr} (hs : s.stimulus = .event c :: rest)
    (hi : decodeV s.params.hasBlink c = .ok i) : step s = exec i (s.enter rest) := by
  have hrest : s.restStimulus = rest := by simp [State.restStimulus, hs]
  rw [step_of_due (c := c) (by simp [State.dueEvent, hs]) hi, hrest]

/-- Settles O57: the place asleep does not look at the flags of the timers, which are disarmed there. -/
theorem deepSleepIgnoresTimers : Obligations.DeepSleepIgnoresTimers := by
  intro s rest h hif s'
  refine ⟨fun hs => ?_, fun hb hs => ?_⟩
  · obtain ⟨hq, hr⟩ := rest_of_asleep (s := { s' with tickIf := true }) h hif
    exact ⟨step_of_event hs rfl, hq, hr, h⟩
  · obtain ⟨hq, hr⟩ := rest_of_asleep (s := { s' with blinkIf := true }) h hif
    have hstep : step s = exec .evBlinkOvf s' := step_of_event hs (by rw [hb]; rfl)
    exact ⟨hstep.trans (exec_evBlinkOvf hb), hq, hr, h⟩

end Sys2Proof.Machine


/-! SUPPORT. The sequencer (41_sequencer.md): the operation that the decode word selects, each operation's whole effect, and that a
running sequencer suspends. -/

namespace Sys2Proof.Machine

variable {s t u : State}

/-! ## The selection -/

/-- The row of each state code while `dly = 0` (30_encoding.md rule R66). -/
theorem decodeStateCode_eq_ite (b : Bool) (c : StateCode) :
    decodeStateCode b c =
      if c = 0#3 then .gotosleep
      else if c = 1#3 then .sleep
      else if c = 2#3 then .wakeup
      else if c = 3#3 then .tock
      else if c = 4#3 then (if b then .lightsleep else .recoverFour)
      else if c = 5#3 then .recoverFive
      else .recoverHigh (c.extractLsb' 0 1) := by
  revert b c
  decide

theorem State.SequencerTurn.step_eq (hs : s.SequencerTurn) :
    step s = exec (if s.dly then .settleDone s.state else decodeStateCode s.params.hasBlink s.state)
      (s.enter s.restStimulus) := by
  rw [step_of_operation (State.nextMove_of_running hs.noEvent hs.noRequest hs.running), decodeS_decodeWord]

/-- Settles O4: the step is the decoded operation, and the decoder looks at `dly` first and then at the state code. -/
theorem stepRunsSelectedOperation : Obligations.StepRunsSelectedOperation := by
  intro s hd hq hw
  have hs : s.SequencerTurn := ⟨hd, State.irqPending_eq_false_iff_irq_eq_zero.mpr hq, hw⟩
  rw [hs.step_eq, decodeStateCode_eq_ite]
  rfl

/-- A running sequencer with `dly = 0` goes on to the operation of its state code. -/
theorem State.blockMove_of_stateCode (hdly : s.dly = false) (hw : s.wait = .none) (hq : s.irqPending = false) :
    s.blockMove = .operation (decodeStateCode s.params.hasBlink s.state) := by
  simp [State.blockMove, decodeS_decodeWord, hdly, hw, hq]

/-! ## The operations -/

/-- Settles O22: GOTOSLEEP is one record update. -/
theorem gotosleepEffect : Obligations.GotosleepEffect :=
  ⟨fun _ => rfl, exec_gotosleep⟩

/-- Settles O23: SLEEP writes `wait` alone, and `pwr` is read off it. -/
theorem sleepEffect : Obligations.SleepEffect :=
  ⟨fun _ => rfl, fun _ => ⟨rfl, rfl⟩⟩

/-- WAKEUP disarms the wake pin and clears the flags of the two timers it arms. -/
theorem irqPending_of_wakeup (h : exec .wakeup s = .next t) : t.irqPending = false := by
  obtain rfl := Host.Outcome.next.inj ((exec_wakeup s).symm.trans h)
  simp [State.irqPending, State.wakeRequest, State.tickRequest, State.blinkRequest, State.readBlinkIf]

/-- Settles O24: with no request left over, Tock is the code that is decoded next. -/
theorem wakeupEffect : Obligations.WakeupEffect := by
  refine ⟨fun _ => rfl, fun s => ⟨exec_wakeup s, fun t ht => ?_⟩⟩
  have hq := irqPending_of_wakeup ht
  refine ⟨State.irqPending_eq_false_iff_irq_eq_zero.mp hq, fun hdly hw => ?_⟩
  obtain rfl := Host.Outcome.next.inj ((exec_wakeup s).symm.trans ht)
  exact State.blockMove_of_stateCode hdly hw hq

/-- The address `{p, t}` counts bits, 64 to a profile (30_encoding.md rule R64). -/
theorem toNat_romAddress (p : ProfileIndex) (t : TickIndex) : (romAddress p t).toNat = 64 * p.toNat + t.toNat := by
  rw [romAddress, BitVec.toNat_append, ← Nat.shiftLeft_add_eq_or_of_lt t.isLt, Nat.shiftLeft_eq, Nat.mul_comm]

theorem romAddress_tickIndex (p : ProfileIndex) (h : s.tick.toNat < 64) :
    romAddress p s.tickIndex = BitVec.ofNat 9 (64 * p.toNat + s.tick.toNat) := by
  rw [← s.tickIndex_toNat h, ← toNat_romAddress, BitVec.ofNat_toNat, BitVec.setWidth_eq]

/-- The stepping branch of TOCK: while `tick < 64` it wraps neither as the lookup's operand nor in the increment. -/
theorem exec_tock_profileBit (h : s.tick.toNat < 64) :
    exec .tock s =
      .next { s with lookup := some (BitVec.ofNat 9 (64 * s.profileI.toNat + s.tick.toNat),
                       (s.mem.profile s.profileI).getLsbD s.tick.toNat),
                     motorOn := (s.mem.profile s.profileI).getLsbD s.tick.toNat,
                     tick := BitVec.ofNat 7 (s.tick.toNat + 1), wait := .tick } := by
  have hnext : BitVec.ofNat 7 (s.tick.toNat + 1) = nextTick s.tick := by
    rw [← nextTick_toNat h, BitVec.ofNat_toNat, BitVec.setWidth_eq]
  rw [exec_tock_stepping h, romAddress_tickIndex _ h, romRead, s.tickIndex_toNat h, hnext]

theorem nextProfile_toNat (p : ProfileIndex) : (nextProfile p).toNat = (p.toNat + 1) % 8 :=
  BitVec.toNat_add p 1#3

/-- Settles O25, by the two branches of TOCK; after the final one GoToSleep is the code decoded next. -/
theorem tockEffect : Obligations.TockEffect := by
  refine ⟨fun _ => rfl, fun s h => ?_, fun s h => ⟨_, exec_tock_profileBit h⟩, fun s t h hdly hw hq ht => ?_⟩
  · rw [exec_tock_final h, ← nextProfile_toNat, BitVec.ofNat_toNat, BitVec.setWidth_eq]
    rfl
  · obtain rfl := Host.Outcome.next.inj ((exec_tock_final h).symm.trans ht)
    exact State.blockMove_of_stateCode hdly hw (State.irqPending_eq_false_iff_irq_eq_zero.mpr hq)

/-- Settles O26: on the blink variant LIGHTSLEEP writes `wait` alone. -/
theorem lightsleepEffect : Obligations.LightsleepEffect :=
  ⟨rfl, fun _ => exec_lightsleep⟩

/-- Settles O27: the three constructors have one effect, and the code it writes is the one decoded next. -/
theorem recoverEffect : Obligations.RecoverEffect := by
  refine ⟨fun _ => ⟨rfl, rfl, rfl⟩, rfl, fun s low => ⟨rfl, rfl, rfl, fun hdly hw hq => ?_⟩⟩
  exact State.blockMove_of_stateCode hdly hw (State.irqPending_eq_false_iff_irq_eq_zero.mpr hq)

/-! ## Suspension -/

theorem steps_one (h : step s = .next t) : steps 1 s = .next t := by
  simp only [steps, h]

theorem steps_cons {n : Nat} (h : step s = .next t) (h' : steps n t = .next u) : steps (n + 1) s = .next u := by
  simpa only [steps, h] using h'

theorem steps_trans {m n : Nat} (h : steps m s = .next t) (h' : steps n t = .next u) : steps (m + n) s = .next u := by
  induction m generalizing s with
  | zero =>
    cases h
    rwa [Nat.zero_add]
  | succ m ih =>
    rw [Nat.succ_add]
    rcases hs : step s with v | r | r <;> simp only [steps, hs] at h
    · exact steps_cons hs (ih h)
    · cases h
    · cases h

/-- Settles O54: at most two moves are left before rest, and each step of the block takes one of them off. -/
theorem sequencerSuspendsWithinTwo : Obligations.SequencerSuspendsWithinTwo := by
  intro s hst hw hq
  have hle := State.movesToRest_le_two (State.irqPending_eq_false_iff_irq_eq_zero.mpr hq)
  have suspended {u : State} (h : u.atRest = true) : u.wait ≠ .none ∧ u.irq = 0#3 := (State.atRest_iff_irq.mp h).symm
  obtain ⟨t, ht, -, htst, hlt⟩ := block_step_of_trace (codes := []) hst (by simp [State.atRest, hw])
  cases hrt : t.atRest
  case true => exact .inl ⟨t, steps_one ht, suspended hrt⟩
  case false =>
    obtain ⟨u, hu, -, -, hlt'⟩ := block_step_of_trace htst hrt
    have hru : u.atRest = true := State.movesToRest_eq_zero_iff.mp (by omega)
    exact .inr ⟨u, steps_cons ht (steps_one hu), suspended hru⟩

end Sys2Proof.Machine


/-! SUPPORT. One activation, move by move (41_sequencer.md rules R107, R109): from deep sleep to the first lookup, from lookup to
lookup, and from the last tick back to deep sleep. -/

namespace Sys2Proof.Machine

variable {s t u : State} {n : Nat} {c : EventCode} {codes : List EventCode} {p : ProfileIndex} {m : Memory}

/-! ## The moves while a trace is delivered -/

theorem step_of_restEvent {i : Instr} (hst : s.stimulus = traceOf (c :: codes)) (hr : s.atRest = true)
    (hi : decodeV s.params.hasBlink c = .ok i) : step s = exec i (s.enter (traceOf codes)) := by
  obtain ⟨hd, hrest⟩ := dueEvent_of_rest hst hr
  rw [step_of_due hd hi, hrest]

theorem step_of_traceRequest (hst : s.stimulus = traceOf codes) (hq : s.irqPending = true) :
    step s = .next (dispatch (s.enter (traceOf codes))) := by
  obtain ⟨hd, hrest⟩ := dueEvent_of_moving hst (by simp [State.atRest, hq])
  rw [step_of_dispatch (State.nextMove_of_request hd hq), hrest, hst]

theorem step_of_traceRunning (hst : s.stimulus = traceOf codes) (hq : s.irqPending = false) (hw : s.wait = .none) :
    step s = exec (if s.dly then .settleDone s.state else decodeStateCode s.params.hasBlink s.state)
      (s.enter (traceOf codes)) := by
  obtain ⟨hd, hrest⟩ := dueEvent_of_moving hst (by simp [State.atRest, hw])
  rw [State.SequencerTurn.step_eq ⟨hd, hq, hw⟩, hrest, hst]

theorem step_of_traceCode {code : StateCode} (hst : s.stimulus = traceOf codes) (hq : s.irqPending = false)
    (hw : s.wait = .none) (hdly : s.dly = false) (hc : s.state = code) :
    step s = exec (decodeStateCode s.params.hasBlink code) (s.enter (traceOf codes)) := by
  rw [step_of_traceRunning hst hq hw, hdly, hc]
  rfl

theorem step_of_traceSettled (hst : s.stimulus = traceOf codes) (hq : s.irqPending = false) (hw : s.wait = .none)
    (hdly : s.dly = true) : step s = exec (.settleDone s.state) (s.enter (traceOf codes)) := by
  rw [step_of_traceRunning hst hq hw, if_pos hdly]

/-- The block's moves keep the normal cycle, since no event is due. -/
theorem State.normal.of_block_step (hn : s.normal) (hst : s.stimulus = traceOf codes) (hr : s.atRest = false)
    (h : step s = .next t) : t.normal :=
  normalCycleKept s t hn (by simp [State.envOk, dueEvent_of_moving hst hr]) h

/-! ## Waking -/

/-- The wake edge and its dispatch (40_dispatcher.md rules R81, R84). -/
theorem woken_of_asleep (h : s.inPhase .asleep = true) (hif : s.wakeIf = false) (hst : s.stimulus = traceOf (1#3 :: codes)) :
    ∃ t, steps 2 s = .next t ∧ t.inPhase .woken = true ∧ t.profileI = s.profileI ∧ t.mem = s.mem ∧
      t.stimulus = traceOf codes := by
  obtain ⟨-, -, -, hie, -⟩ := inPhase_asleep_iff.mp h
  let edge : State := { s.enter (traceOf codes) with wakeIf := true }
  have hedge : step s = .next edge := step_of_restEvent hst (rest_of_asleep h hif).2 rfl
  have hq : edge.irqPending = true := by simp [edge, State.irqPending, State.wakeRequest, hie]
  have hserve := step_of_traceRequest (s := edge) rfl hq
  exact ⟨_, steps_cons hedge (steps_one hserve),
    inPhase_woken_of_dispatch (s := edge.enter _) (.inr h) hq, by simp [edge], by simp [edge], by simp⟩

/-! ## Playback -/

/-- Bit `n` of profile `p` of the ROM `m` is looked up next: the ROM port shows no access, and `codes` are left of the trace. -/
structure BeforeLookup (p : ProfileIndex) (m : Memory) (n : Nat) (codes : List EventCode) (t : State) : Prop where
  place : t.inPhase .playing = true
  tick : t.tick.toNat = n
  silent : t.lookup = none
  profileI : t.profileI = p
  mem : t.mem = m
  stimulus : t.stimulus = traceOf codes

/-- The machine rests after the lookup of bit `n` of profile `p` of the ROM `m`, which the motor and the ROM port show, and
`codes` are left of the trace. -/
structure AfterLookup (p : ProfileIndex) (m : Memory) (n : Nat) (codes : List EventCode) (t : State) : Prop where
  place : t.inPhase .waiting = true
  rest : t.atRest = true
  tick : t.tick.toNat = n + 1
  motorOn : t.motorOn = (m.profile p).getLsbD n
  lookup : t.lookup = some (BitVec.ofNat 9 (64 * p.toNat + n), (m.profile p).getLsbD n)
  profileI : t.profileI = p
  mem : t.mem = m
  stimulus : t.stimulus = traceOf codes

/-- WAKEUP (41_sequencer.md rule R103). -/
theorem beforeLookup_of_woken (h : s.inPhase .woken = true) (hst : s.stimulus = traceOf codes) :
    ∃ t, step s = .next t ∧ BeforeLookup s.profileI s.mem 0 codes t := by
  obtain ⟨hc, hw, hdly, hwake, htick, hblink, -⟩ := inPhase_woken_iff.mp h
  have hq := State.irqPending_eq_false hwake htick hblink
  have hstep := (step_of_traceCode hst hq hw hdly hc).trans (exec_wakeup _)
  have hn := State.normal.of_block_step ⟨_, h⟩ hst (by simp [State.atRest, hw]) hstep
  exact ⟨_, hstep, hn.playing_of_state hw rfl, rfl, rfl, rfl, rfl, rfl⟩

/-- A stepping TOCK (41_sequencer.md rule R104). -/
theorem BeforeLookup.afterLookup (h : BeforeLookup p m n codes t) (hn : n < 64) :
    ∃ u, step t = .next u ∧ AfterLookup p m n codes u := by
  obtain ⟨place, rfl, -, rfl, rfl, hst⟩ := h
  obtain ⟨hc, hw, hplay, hq, -⟩ := inPhase_playing_iff.mp place
  obtain ⟨-, -, -, hdly⟩ := State.playbackArmed_iff.mp hplay
  have hstep := (step_of_traceCode hst hq hw hdly hc).trans (exec_tock_profileBit (s := t.enter _) hn)
  have hnormal := State.normal.of_block_step ⟨_, place⟩ hst (by simp [State.atRest, hw]) hstep
  have htick : (BitVec.ofNat 7 (t.tick.toNat + 1)).toNat = t.tick.toNat + 1 := Nat.mod_eq_of_lt (by omega)
  exact ⟨_, hstep, hnormal.waiting_of_wait rfl, (State.atRest_iff _).mpr ⟨hq, nofun⟩, htick, rfl, rfl, rfl, rfl, rfl⟩

/-- The tick event and its dispatch look nothing up (40_dispatcher.md rules R82, R85). -/
theorem AfterLookup.beforeLookup_succ (h : AfterLookup p m n (2#3 :: codes) t) :
    ∃ u v, step t = .next u ∧ u.lookup = none ∧ step u = .next v ∧ BeforeLookup p m (n + 1) codes v := by
  obtain ⟨-, hw, hplay, -⟩ := inPhase_waiting_iff.mp h.place
  obtain ⟨hie, -⟩ := State.playbackArmed_iff.mp hplay
  let flagged : State := { t.enter (traceOf codes) with tickIf := true }
  have hevent : step t = .next flagged := step_of_restEvent h.stimulus h.rest rfl
  have htick : flagged.tickRequest = true := by simp [flagged, State.tickRequest, hie]
  have hq : flagged.irqPending = true := by simp [State.irqPending, htick]
  have hserve := step_of_traceRequest (s := flagged) rfl hq
  have hn := State.normal.of_block_step (s := flagged) ⟨.waiting, h.place⟩ rfl (by simp [State.atRest, hq]) hserve
  have hw' : flagged.wait = .tick := hw
  exact ⟨flagged, _, hevent, rfl, hserve,
    hn.playing_of_state (by simp [dispatch_wait, htick, hw']) (by simp [dispatch_state, htick, hw', codeTock]),
    by simp [flagged, h.tick], by simp, by simp [flagged, h.profileI], by simp [flagged, h.mem], by simp⟩

/-- Woken and given `n` ticks, the machine comes to rest after the lookup of bit `n`: WAKEUP and a TOCK, and then an event, a
dispatch and a TOCK for each tick (41_sequencer.md rule R109). -/
theorem afterLookup_of_woken (h : s.inPhase .woken = true) (hn : n < 64) (hst : s.stimulus = traceOf (traceTicks n ++ codes)) :
    ∃ t, steps (2 + 3 * n) s = .next t ∧ AfterLookup s.profileI s.mem n codes t := by
  induction n generalizing codes with
  | zero =>
    obtain ⟨t, ht, hbefore⟩ := beforeLookup_of_woken h hst
    obtain ⟨u, hu, hafter⟩ := hbefore.afterLookup hn
    exact ⟨u, steps_cons ht (steps_one hu), hafter⟩
  | succ n ih =>
    have hticks : traceTicks (n + 1) ++ codes = traceTicks n ++ 2#3 :: codes := by
      simp [traceTicks, List.replicate_succ']
    obtain ⟨t, ht, hafter⟩ := ih (by omega) (hticks ▸ hst)
    obtain ⟨u, v, hu, -, hv, hbefore⟩ := hafter.beforeLookup_succ
    obtain ⟨w, hw, hafter'⟩ := hbefore.afterLookup hn
    have hrun : steps (2 + 3 * n + 3) s = .next w := steps_trans ht (steps_cons hu (steps_cons hv (steps_one hw)))
    exact ⟨w, hrun, hafter'⟩

/-- Settles O58: the run to lookup `n`, and the event and the dispatch after it. -/
theorem playbackDrivesProfileBits : Obligations.PlaybackDrivesProfileBits := by
  intro s n k h hn hk hst
  have hsplit : traceTicks k = traceTicks n ++ traceTicks (k - n) := by
    rw [traceTicks, traceTicks, traceTicks, List.replicate_append_replicate, Nat.add_sub_of_le hk]
  obtain ⟨t₀, ht₀, hbefore⟩ := beforeLookup_of_woken h hst
  obtain ⟨t, ht, hafter⟩ := afterLookup_of_woken h hn (hsplit ▸ hst)
  obtain ⟨hc, hw, -⟩ := inPhase_waiting_iff.mp hafter.place
  refine ⟨⟨t₀, steps_one ht₀, hbefore.silent⟩,
    ⟨t, ht, hafter.motorOn, hafter.tick, hafter.profileI, hc, hw, hafter.stimulus, hafter.lookup⟩, fun hlt => ?_⟩
  obtain ⟨m, hm⟩ : ∃ m, k - n = m + 1 := ⟨k - n - 1, by omega⟩
  rw [hm] at hafter
  obtain ⟨u, v, hu, hsilent, hv, hbefore'⟩ := hafter.beforeLookup_succ
  exact ⟨⟨u, steps_trans ht (steps_one hu), hsilent⟩,
    ⟨v, steps_trans ht (steps_cons hu (steps_one hv)), hbefore'.silent⟩⟩

/-! ## Back to deep sleep -/

/-- The final TOCK (41_sequencer.md rule R104). -/
theorem BeforeLookup.finished (h : BeforeLookup p m 64 codes t) :
    ∃ u, step t = .next u ∧ u.inPhase .finished = true ∧ u.profileI = nextProfile p ∧ u.mem = m ∧
      u.stimulus = traceOf codes := by
  obtain ⟨hc, hw, hplay, hq, -⟩ := inPhase_playing_iff.mp h.place
  obtain ⟨-, -, -, hdly⟩ := State.playbackArmed_iff.mp hplay
  have hstep := (step_of_traceCode h.stimulus hq hw hdly hc).trans (exec_tock_final (s := t.enter _) h.tick.ge)
  exact ⟨_, hstep, inPhase_finished_iff.mpr ⟨rfl, hw, hplay, hq, h.tick⟩, congrArg nextProfile h.profileI, h.mem, rfl⟩

/-- GOTOSLEEP (41_sequencer.md rule R101). -/
theorem delay_of_finished (h : s.inPhase .finished = true) (hst : s.stimulus = traceOf codes) :
    ∃ t, step s = .next t ∧ t.inPhase .delay = true ∧ t.profileI = s.profileI ∧ t.tick = s.tick ∧ t.mem = s.mem ∧
      t.stimulus = traceOf codes := by
  obtain ⟨hc, hw, hplay, hq, -⟩ := inPhase_finished_iff.mp h
  obtain ⟨-, -, hwake, hdly⟩ := State.playbackArmed_iff.mp hplay
  have hstep := (step_of_traceCode hst hq hw hdly hc).trans (exec_gotosleep _)
  exact ⟨_, hstep, inPhase_delay_iff.mpr ⟨hc, rfl, rfl, hwake, hq, rfl⟩, rfl, rfl, rfl, rfl⟩

/-- SLEEP (41_sequencer.md rule R102). -/
theorem step_of_armed (h : s.inPhase .armed = true) (hq : s.irqPending = false) (hst : s.stimulus = traceOf codes) :
    step s = .next { s.enter (traceOf codes) with wait := .wake } := by
  obtain ⟨hc, hw, hdly, -⟩ := inPhase_armed_iff.mp h
  exact step_of_traceCode hst hq hw hdly hc

theorem State.regTMR_eq_zero (hquiet : s.quiet = true) (hdly : s.dly = false) : s.regTMR = 0#3 := by
  obtain ⟨htick, hblink, -⟩ := State.quiet_iff.mp hquiet
  rw [State.regTMR, htick, hblink, hdly]
  rfl

/-- The expiry of the settling delay, SETTLE_DONE and SLEEP (43_settling_delay.md rules R131, R132). -/
theorem asleep_of_delay (h : s.inPhase .delay = true) (hst : s.stimulus = traceOf (4#3 :: codes)) :
    ∃ t, steps 3 s = .next t ∧ t.inPhase .asleep = true ∧ t.profileI = s.profileI ∧ t.tick = s.tick ∧ t.mem = s.mem ∧
      t.regIE = 0b001#3 ∧ t.regIF = 0b000#3 ∧ t.regTMR = 0b000#3 ∧ t.motorOn = false ∧ t.led = .level false ∧
      t.stimulus = traceOf codes := by
  obtain ⟨-, hw, hdly, -, hq, hquiet⟩ := inPhase_delay_iff.mp h
  obtain ⟨-, -, hmotor⟩ := State.quiet_iff.mp hquiet
  let settled : State := { s.enter (traceOf codes) with wait := .none }
  have hexpiry : step s = .next settled := by
    rw [step_of_restEvent hst (s.atRest_iff.mpr ⟨hq, by simp [hw]⟩) rfl, exec_evDlyDone]
    simp [settled, hw]
  have hsettle := (step_of_traceSettled (s := settled) rfl hq rfl hdly).trans (exec_settleDone _ _)
  refine ⟨_, steps_cons hexpiry (steps_cons hsettle
      (steps_one (step_of_armed (inPhase_armed_iff.mpr ⟨rfl, rfl, rfl, rfl, rfl, rfl, hquiet⟩) rfl rfl))),
    inPhase_asleep_iff.mpr ⟨rfl, rfl, rfl, rfl, rfl, rfl, hquiet⟩, rfl, rfl, rfl, ?_, ?_,
    State.regTMR_eq_zero hquiet rfl, hmotor, rfl, rfl⟩
  · simp [State.regIE, State.readBlinkIe]
  · simp [State.regIF, State.readBlinkIf]

/-- Settles O59: 2 steps to wake, 2 + 3 * 63 to the lookup of the last bit, 3 to the final TOCK and 4 to deep sleep. -/
theorem activationReturnsToSleep : Obligations.ActivationReturnsToSleep := by
  intro s h hif hst
  have hcycle : traceCycle = 1#3 :: (traceTicks 63 ++ [2#3, 4#3]) := rfl
  obtain ⟨s₁, h₁, hwoken, hp₁, hm₁, hst₁⟩ := woken_of_asleep h hif (hcycle ▸ hst)
  obtain ⟨s₂, h₂, hafter⟩ := afterLookup_of_woken hwoken (n := 63) (by omega) hst₁
  obtain ⟨s₃, s₄, h₃, -, h₄, hbefore⟩ := hafter.beforeLookup_succ
  obtain ⟨s₅, h₅, hfinished, hp₅, hm₅, hst₅⟩ := hbefore.finished
  obtain ⟨-, -, -, -, htick₅⟩ := inPhase_finished_iff.mp hfinished
  obtain ⟨s₆, h₆, hdelay, hp₆, htick₆, hm₆, hst₆⟩ := delay_of_finished hfinished hst₅
  obtain ⟨t, ht, hasleep, hp, htick, hm, hregs⟩ := asleep_of_delay hdelay hst₆
  have hlast : steps 7 s₂ = .next t := steps_cons h₃ (steps_cons h₄ (steps_cons h₅ (steps_cons h₆ ht)))
  refine ⟨t, steps_trans h₁ (steps_trans h₂ hlast), hasleep, ?_, ?_, ?_⟩
  · rw [hp, hp₆, hp₅, nextProfile_toNat, hp₁]
  · exact BitVec.eq_of_toNat_eq (by rw [htick, htick₆, htick₅]; rfl)
  · obtain ⟨hie, hif', htmr, hmotor, hled, hstt⟩ := hregs
    exact ⟨hie, hif', htmr, hmotor, hled, hstt, by rw [hm, hm₆, hm₅, hm₁]⟩

end Sys2Proof.Machine


/-! SUPPORT. The profile lookup (42_profile_lookup.md): what PBIT returns, which bit a TOCK looks up, and that the motor
goes on by that bit alone. -/

namespace Sys2Proof.Machine

variable {s : State}

/-- A stepping TOCK reads bit `tick` of the word of profile `profile_i` (42_profile_lookup.md rule R121). -/
theorem romRead_tickIndex (m : Memory) (p : ProfileIndex) (h : s.tick.toNat < 64) :
    romRead m p s.tickIndex = (m.profile p).getLsbD s.tick.toNat := by
  rw [romRead, s.tickIndex_toNat h]

/-- Settles O44: a stepping TOCK drives the motor with the bit it reads, GOTOSLEEP and a reset switch the motor off, and
every other transition leaves it as it was. -/
theorem motorStartsOnlyByProfileBit : Obligations.MotorStartsOnlyByProfileBit := by
  intro s t h hoff hon
  cases transition_of_step h with
  | tockStepping hs hdly hc hm ht => exact ⟨hm, ht, (romRead_tickIndex s.mem s.profileI ht).symm.trans hon⟩
  | gotosleep | reset => cases hon
  | dispatch => simp [hoff] at hon
  | _ => cases hoff.symm.trans hon

/-- PBIT shows its address and the bit there, and writes nothing else (42_profile_lookup.md rule R120). -/
theorem exec_pbit (p : ProfileIndex) (t : TickIndex) (s : State) :
    exec (.pbit p t) s = .next { s with lookup := some (romAddress p t, romRead s.mem p t) } :=
  rfl

/-- Settles O29: the address is taken apart where it was put together, and PBIT reads the profile's word there. -/
theorem lookupReturnsProfileBit : Obligations.LookupReturnsProfileBit :=
  fun p t => ⟨decodeA_address p t, toNat_romAddress p t, exec_pbit p t⟩

/-- Settles O30, by the two branches of TOCK. -/
theorem romPortShowsLookup : Obligations.RomPortShowsLookup := by
  intro s t h
  refine ⟨fun hlt => ?_, fun hge => ?_⟩
  · obtain rfl := Host.Outcome.next.inj ((exec_tock_profileBit hlt).symm.trans h)
    rfl
  · obtain rfl := Host.Outcome.next.inj ((exec_tock_final hge).symm.trans h)
    rfl

end Sys2Proof.Machine


/-! SUPPORT. The settling delay (43_settling_delay.md): how it ends, and that nothing shortens it or leads out of it to WAKEUP. -/

namespace Sys2Proof.Machine

variable {s t : State}

/-! ## The expiry of the delay timer -/

/-- A running sequencer with `dly = 1` goes on to SETTLE_DONE, whatever `state` holds (30_encoding.md rule R68). -/
theorem State.blockMove_of_dly (hdly : s.dly = true) (hw : s.wait = .none) (hq : s.irqPending = false) :
    s.blockMove = .operation (.settleDone s.state) := by
  simp [State.blockMove, decodeS_decodeWord, hdly, hw, hq]

/-- Settles O20: the expiry writes `wait` alone, and only to end the delay's suspension. -/
theorem delayExpiryEndsDelay : Obligations.DelayExpiryEndsDelay := by
  have ends (s : State) (hw : s.wait = .delay) : exec .evDlyDone s = .next { s with wait := .none } := by
    rw [exec_evDlyDone, if_pos hw]
  refine ⟨fun _ => rfl, ends, fun s hw => ?_, fun s t hw hdly hq h => ?_⟩
  · rw [exec_evDlyDone, if_neg hw]
  · obtain rfl := Host.Outcome.next.inj ((ends s hw).symm.trans h)
    exact State.blockMove_of_dly hdly rfl (State.irqPending_eq_false_iff_irq_eq_zero.mpr hq)

/-! ## SETTLE_DONE -/

/-- SETTLE_DONE arms the wake pin alone and clears every flag, so that nothing requests (43_settling_delay.md rule R131). -/
theorem requests_of_settleDone {code : StateCode} (h : exec (.settleDone code) s = .next t) :
    t.regIE = 0b001#3 ∧ t.regIF = 0b000#3 ∧ t.irqPending = false := by
  obtain rfl := Host.Outcome.next.inj ((exec_settleDone code s).symm.trans h)
  refine ⟨?_, ?_, ?_⟩
  · simp [State.regIE, State.readBlinkIe]
  · simp [State.regIF, State.readBlinkIf]
  · simp [State.irqPending, State.wakeRequest, State.tickRequest, State.blinkRequest, State.readBlinkIe]

/-- Settles O28: SETTLE_DONE is one record update; with no request left over, Sleep is the code that is decoded next. -/
theorem settleDoneEffect : Obligations.SettleDoneEffect := by
  refine ⟨decodeS_settleDone_word, fun s code => ⟨exec_settleDone code s, fun t ht => ?_⟩⟩
  obtain ⟨hie, hif, hq⟩ := requests_of_settleDone ht
  refine ⟨hie, hif, State.irqPending_eq_false_iff_irq_eq_zero.mp hq, fun hw => ?_⟩
  obtain rfl := Host.Outcome.next.inj ((exec_settleDone code s).symm.trans ht)
  exact State.blockMove_of_stateCode rfl hw hq

/-! ## From GOTOSLEEP to SETTLE_DONE -/

theorem State.settling_iff : s.settling = true ↔ s.dly = true ∧ (s.wait = .delay ∨ s.wait = .none) := by
  simp [State.settling]

/-- A dispatch writes no `dly`, and `wait` at most to `NONE` (40_dispatcher.md rule R88). -/
theorem settling_dispatch (h : s.settling = true) : (dispatch s).settling = true := by
  obtain ⟨hdly, hw⟩ := State.settling_iff.mp h
  refine State.settling_iff.mpr ⟨by simpa using hdly, ?_⟩
  obtain heq | ⟨hnone, -⟩ := dispatch_wait_cases s
  · rwa [heq]
  · exact .inr hnone

/-- Settles O52: with `dly = 1` the sequencer's only operation is SETTLE_DONE; of the other moves only a reset writes `dly`, and
none suspends. -/
theorem settlingIgnoresBounces : Obligations.SettlingIgnoresBounces := by
  intro s t h hstep
  obtain ⟨hdly, hw⟩ := State.settling_iff.mp h
  cases transition_of_step hstep with
  | wakeEdge hd hm | tickOvf hd hm | blinkOvf hd hm | idle hr hm => exact .inl ⟨h, by simp [hm]⟩
  | delayDone hd hm =>
    have hend : (if s.wait = .delay then Wait.none else s.wait) = .none := by
      rcases hw with hw | hw <;> simp [hw]
    exact .inl ⟨State.settling_iff.mpr ⟨hdly, .inr hend⟩, by simp [hm]⟩
  | dispatch hd hq hm => exact .inl ⟨settling_dispatch h, by simp [hm]⟩
  | reset hd hm => exact .inr (.inl hm)
  | settleDone hs _ hm =>
    obtain ⟨hie, hif, -⟩ := requests_of_settleDone (exec_settleDone s.state (s.enter s.restStimulus))
    exact .inr (.inr ⟨s.state, hm, rfl, hs.running, rfl, hie, hif⟩)
  | gotosleep _ hoff | sleep _ hoff | wakeup _ hoff | tockStepping _ hoff | tockFinal _ hoff | lightsleep _ hoff =>
    cases hoff.symm.trans hdly
  | recover _ _ hoff => cases hoff.symm.trans hdly

end Sys2Proof.Machine


/-! SUPPORT. Rest and stuck suspensions (60_exceptions.md rule R142): where no agent has a step and no event is due the machine
waits, and a suspension whose source can no longer fire lasts under everything but a reset. -/

namespace Sys2Proof.Machine

variable {s : State}

/-! ## Waiting -/

/-- Settles O7: at rest with no event due the move is to wait. -/
theorem stepWaitsAtRest : Obligations.StepWaitsAtRest :=
  fun _ hd hq hw => step_of_idle (State.nextMove_of_atRest hd (State.atRest_iff_irq.mpr ⟨hq, hw⟩))

/-! ## Stuck suspensions -/

/-- Each suspension with what keeps its own source from firing (60_exceptions.md rule R142 (c)). -/
theorem State.stuck_iff :
    s.stuck = true ↔
      (s.wait = .wake ∧ s.wakeIe = false) ∨
      (s.wait = .tick ∧ (s.tickIe = false ∨ s.tickRun = false ∧ s.tickIf = false)) ∨
      (s.wait = .blink ∧ (s.readBlinkIe = false ∨ s.readBlinkRun = false ∧ s.readBlinkIf = false)) ∨
      (s.wait = .delay ∧ s.dly = false) := by
  cases hw : s.wait <;> simp [State.stuck, hw]

theorem wait_ne_none_of_stuck (h : s.stuck = true) : s.wait ≠ .none := fun hw => by
  simp [State.stuck, hw] at h

theorem dly_eq_false_of_stuck (h : s.stuck = true) (hw : s.wait = .delay) : s.dly = false := by
  simpa [State.stuck, hw] using h

/-- The source of a stuck suspension does not request, so no dispatch ends the suspension. -/
theorem dispatch_wait_of_stuck (h : s.stuck = true) : (dispatch s).wait = s.wait := by
  obtain heq | ⟨-, ⟨hr, hw⟩ | ⟨hr, hw⟩ | ⟨hr, hw⟩⟩ := dispatch_wait_cases s
  · exact heq
  all_goals
    obtain ⟨hie, hif⟩ := Bool.and_eq_true_iff.mp hr
    simp [State.stuck, hw, hie, hif] at h

/-- A dispatch arms no source, starts no timer and sets no flag (40_dispatcher.md rules R87, R88). -/
theorem stuck_dispatch (h : s.stuck = true) : (dispatch s).stuck = true := by
  rw [State.stuck_iff, dispatch_wait_of_stuck h]
  refine (State.stuck_iff.mp h).imp (.imp_right ?wake) (.imp (.imp_right ?tick) (.imp (.imp_right ?blink) (.imp_right ?delay)))
  case wake => simp +contextual
  case tick => simp +contextual [or_imp]
  case blink => simp +contextual [State.readBlinkIe, State.readBlinkRun, State.readBlinkIf, or_imp]
  case delay => simp

/-- A timer that overflows runs, so a suspension under it is stuck by its enable alone, which the event leaves clear. -/
theorem stuck_tickOvf (h : s.stuck = true) (hrun : s.tickRun = true) : ({ s with tickIf := true } : State).stuck = true := by
  rw [State.stuck_iff] at h ⊢
  simpa [hrun, State.readBlinkIe, State.readBlinkRun, State.readBlinkIf] using h

/-- `stuck_tickOvf` for the blink timer. -/
theorem stuck_blinkOvf (h : s.stuck = true) (hrun : s.readBlinkRun = true) :
    ({ s with blinkIf := true } : State).stuck = true := by
  obtain ⟨hbit, hb⟩ := Bool.and_eq_true_iff.mp hrun
  rw [State.stuck_iff] at h ⊢
  simpa [hbit, hb, State.readBlinkIe, State.readBlinkRun] using h

theorem State.tickRun_of_permits (h : s.permits 2#3 = true) : s.tickRun = true := (Bool.and_eq_true_iff.mp h).1

theorem State.readBlinkRun_of_permits (h : s.permits 3#3 = true) : s.readBlinkRun = true := (Bool.and_eq_true_iff.mp h).1

theorem State.dly_of_permits (h : s.permits 4#3 = true) : s.dly = true := (Bool.and_eq_true_iff.mp h).1

/-- Settles O53: the environment sets no flag of a stopped timer and ends no delay that does not run, a dispatch serves no
disarmed source, and the suspended sequencer has no step. -/
theorem stuckSuspensionsLast : Obligations.StuckSuspensionsLast := by
  intro s t h henv hreset hstep
  cases transition_of_step hstep with
  | wakeEdge | idle => exact ⟨h, rfl⟩
  | tickOvf hd =>
    have hrun := State.tickRun_of_permits (State.permits_of_due hd henv)
    exact ⟨stuck_tickOvf (s := s.enter s.restStimulus) h hrun, rfl⟩
  | blinkOvf hd =>
    have hrun := State.readBlinkRun_of_permits (State.permits_of_due hd henv)
    exact ⟨stuck_blinkOvf (s := s.enter s.restStimulus) h hrun, rfl⟩
  | delayDone hd =>
    have hp := State.permits_of_due hd henv
    cases (dly_eq_false_of_stuck h (State.wait_of_permits_delay hp)).symm.trans (State.dly_of_permits hp)
  | reset _ hm => exact absurd hm hreset
  | dispatch => exact ⟨stuck_dispatch (s := s.enter s.restStimulus) h, dispatch_wait_of_stuck (s := s.enter s.restStimulus) h⟩
  | settleDone hs | gotosleep hs | sleep hs | wakeup hs | tockStepping hs | tockFinal hs | lightsleep hs =>
    exact absurd hs.running (wait_ne_none_of_stuck h)
  | recover _ hs => exact absurd hs.running (wait_ne_none_of_stuck h)

end Sys2Proof.Machine


/-! SUPPORT. Power-on (70_reset_and_hazards.md rules R170, R171): EV_RESET leads from any state to the boot place of the normal
cycle, and from there GOTOSLEEP starts the first settling delay. -/

namespace Sys2Proof.Machine

variable {s t : State} {codes : List EventCode}

/-! ## The boot place -/

/-- EV_RESET disarms every source, so that nothing requests whatever values the flags take (70_reset_and_hazards.md rule
R170). -/
theorem boot_of_evReset (h : exec .evReset s = .next t) :
    t.inPhase .boot = true ∧ t.profileI = 0#3 ∧ t.stimulus = s.stimulus := by
  obtain ⟨tick, wf, tf, bf, tr, br, d, he⟩ := exec_evReset s
  obtain rfl := Host.Outcome.next.inj (he.symm.trans h)
  exact ⟨inPhase_boot_iff.mpr ⟨rfl, rfl, rfl, rfl, State.irqPending_eq_false rfl rfl rfl, rfl⟩, rfl, rfl⟩

theorem decodeWord_of_boot (h : s.inPhase .boot = true) : s.decodeWord = 0b0000#4 := by
  obtain ⟨hc, -, hdly, -⟩ := inPhase_boot_iff.mp h
  rw [State.decodeWord, hc, hdly]
  rfl

theorem blockMove_of_boot (h : s.inPhase .boot = true) : s.blockMove = .operation .gotosleep := by
  obtain ⟨hc, hw, hdly, -, hq, -⟩ := inPhase_boot_iff.mp h
  rw [State.blockMove_of_stateCode hdly hw hq, hc]
  rfl

/-- Settles O21: EV_RESET is one record update, and it leads to the boot place. -/
theorem powerOnReset : Obligations.PowerOnReset := by
  refine ⟨fun _ => rfl, fun s => ?_⟩
  obtain ⟨tick, wf, tf, bf, tr, br, d, he⟩ := exec_evReset s
  refine ⟨tick, wf, tf, bf, tr, br, d, he, fun t ht => ?_⟩
  obtain ⟨hboot, -, -⟩ := boot_of_evReset ht
  obtain ⟨-, -, -, -, hq, -⟩ := inPhase_boot_iff.mp hboot
  exact ⟨State.irqPending_eq_false_iff_irq_eq_zero.mp hq, decodeWord_of_boot hboot, blockMove_of_boot hboot⟩

/-! ## From power-on to deep sleep -/

/-- The first GOTOSLEEP stops the timers, which may run after a reset (41_sequencer.md rule R101). -/
theorem delay_of_boot (h : s.inPhase .boot = true) (hst : s.stimulus = traceOf codes) :
    ∃ t, step s = .next t ∧ t.inPhase .delay = true ∧ t.profileI = s.profileI ∧ t.tick = s.tick ∧
      t.stimulus = traceOf codes := by
  obtain ⟨hc, hw, hdly, hwake, hq, -⟩ := inPhase_boot_iff.mp h
  have hstep := (step_of_traceCode hst hq hw hdly hc).trans (exec_gotosleep _)
  exact ⟨_, hstep, inPhase_delay_iff.mpr ⟨hc, rfl, rfl, hwake, hq, rfl⟩, rfl, rfl, rfl⟩

/-- Settles O56: EV_RESET to the boot place, GOTOSLEEP to the settling delay, and 3 steps from there to deep sleep. -/
theorem bootReachesDeepSleep : Obligations.BootReachesDeepSleep := by
  intro s hst
  have hreset : step s = exec .evReset (s.enter (traceOf [4#3])) := step_of_event hst rfl
  obtain ⟨t₀, ht₀⟩ : ∃ t₀, exec .evReset (s.enter (traceOf [4#3])) = .next t₀ := exec_answers rfl
  obtain ⟨hboot, hp₀, hst₀⟩ := boot_of_evReset ht₀
  obtain ⟨t₁, ht₁, hdelay, hp₁, htick₁, hst₁⟩ := delay_of_boot hboot hst₀
  obtain ⟨t, ht, hasleep, hp, htick, -, hie, hif, htmr, hmotor, hled, hstt⟩ := asleep_of_delay hdelay hst₁
  obtain ⟨hc, hw, -⟩ := inPhase_asleep_iff.mp hasleep
  have hfirst : step s = .next t₀ := hreset.trans ht₀
  exact ⟨t₀, t, steps_one hfirst, steps_cons hfirst (steps_cons ht₁ ht), hc, hw, hie, hif, htmr, hmotor, hled,
    by rw [hp, hp₁, hp₀], by rw [htick, htick₁], hstt⟩

end Sys2Proof.Machine


/-! SUPPORT. The encoding the other way round (30_encoding.md): a word that decodes to one operation is the word of that
operation, format by format. -/

namespace Sys2Proof

/-! ## Encoding after decoding -/

/-- A state code's operation has that code for its word, under a decode word's bit `dly = 0` (30_encoding.md rule R61). -/
theorem encode_decodeStateCode (b : Bool) (code : StateCode) : encode (decodeStateCode b code) = .formatS (0#1 ++ code) := by
  revert b code
  decide

theorem decodeWord_split (w : DecodeWord) : BitVec.ofBool (w.getLsbD 3) ++ w.extractLsb' 0 3 = w := by
  revert w
  decide

theorem encode_decodeS (b : Bool) (w : DecodeWord) : encode (decodeS b w) = .formatS w := by
  have hw := decodeWord_split w
  rw [decodeS]
  cases hd : w.getLsbD 3 <;> rw [hd] at hw
  case true => exact congrArg Coded.formatS hw
  case false => exact (encode_decodeStateCode b _).trans (congrArg Coded.formatS hw)

/-- The vectors that select exactly one service, and which (30_encoding.md rule R62). -/
theorem decodeI_ok_cases {b : Bool} {v : IrqVector} {i : Instr} (h : decodeI b v = .ok i) :
    (v = 0b001#3 ∧ i = .irqWake) ∨ (v = 0b010#3 ∧ i = .irqTick) ∨ (v = 0b100#3 ∧ b = true ∧ i = .irqBlink) := by
  revert h
  rcases code_cases v with rfl | rfl | rfl | rfl | rfl | rfl | rfl | rfl <;> cases b <;> simp [decodeI, eq_comm]

theorem encode_decodeA (a : RomAddress) : encode (decodeA a) = .formatA a := by
  have hsplit : a.extractLsb' 6 3 ++ a.extractLsb' 0 6 = a := BitVec.extractLsb'_append_extractLsb'
  exact congrArg Coded.formatA hsplit

/-- Settles O3, format by format: every word of formats S and A has an operation, of formats I and V the ones listed. -/
theorem decodedWordEncodesBack : Obligations.DecodedWordEncodesBack := by
  intro b c i h
  cases c with
  | formatS w =>
    obtain rfl := Except.ok.inj h
    exact ⟨Machine.decodeS_wellFormed b w, encode_decodeS b w⟩
  | formatI v => obtain ⟨rfl, rfl⟩ | ⟨rfl, rfl⟩ | ⟨rfl, rfl, rfl⟩ := decodeI_ok_cases h <;> exact ⟨rfl, rfl⟩
  | formatV e =>
    refine ⟨Machine.decodeV_wellFormed h, ?_⟩
    obtain ⟨rfl, rfl⟩ | ⟨rfl, rfl⟩ | ⟨rfl, -, rfl⟩ | ⟨rfl, rfl⟩ | ⟨rfl, rfl⟩ := decodeV_ok_cases h <;> rfl
  | formatA a =>
    obtain rfl := Except.ok.inj h
    exact ⟨rfl, encode_decodeA a⟩

end Sys2Proof


/-! SUPPORT. What a step delivers and when it answers (30_encoding.md section 5, 70_reset_and_hazards.md section 3): the reading
of the stimulus, the only refusal of a step, and the operations that a device without the blink variant does not have. -/

namespace Sys2Proof.Machine

variable {s : State} {c : EventCode} {rest : List Turn}

/-! ## The stimulus -/

/-- An entry for the state at rest is delivered there and stays until then (30_encoding.md rule R70). -/
theorem delivery_of_eventAtRest (hst : s.stimulus = .eventAtRest c :: rest) :
    s.dueEvent = (if s.atRest then some c else none) ∧
    s.restStimulus = if s.atRest then rest else .eventAtRest c :: rest := by
  simp [State.dueEvent, State.restStimulus, hst]

/-- Settles O8, by the head of the stimulus; `eventAtRest` is split by whether the machine is at rest. -/
theorem stimulusDeliveryOrder : Obligations.StimulusDeliveryOrder := by
  intro s c rest
  refine ⟨fun hst => ?event, fun hst hq hw => ?atRest, fun hst hmoving => ?moving, fun hst => ?block, fun hst => ?empty⟩
  case atRest =>
    have hr : s.atRest = true := State.atRest_iff_irq.mpr ⟨hq, hw⟩
    simpa [hr] using delivery_of_eventAtRest hst
  case moving =>
    have hr : ¬ s.atRest = true := fun hr => by
      obtain ⟨hq, hw⟩ := State.atRest_iff_irq.mp hr
      exact hmoving.elim (absurd hq) hw
    simpa [hr] using delivery_of_eventAtRest hst
  case event | block | empty => simp [State.dueEvent, State.restStimulus, hst]

/-! ## When a step answers -/

/-- Settles O9: with no event due or an assigned code due the step answers, and an unassigned code due is refused. -/
theorem stepStopsOnlyOnMalformedStimulus : Obligations.StepStopsOnlyOnMalformedStimulus := by
  intro s
  rcases hd : s.dueEvent with _ | c
  · exact .inl (step_answers (by simp [hd]))
  · rcases hc : decodeV s.params.hasBlink c with r | i
    · have hcode := decodeV_error_cases hc
      exact .inr ⟨c, rfl, by tauto, step_of_malformed (State.nextMove_of_malformed hd hc)⟩
    · exact .inl (step_answers (by simp [hd, hc]))

/-- Settles O60: each of the three meanings asks for the blink variant first. -/
theorem absentOperationsAreRefused : Obligations.AbsentOperationsAreRefused := by
  intro s hb
  have absent : ¬ s.params.hasBlink = true := by simp [hb]
  exact ⟨if_neg absent, if_neg absent, if_neg absent⟩

end Sys2Proof.Machine


/-! SUPPORT. The values that the spec leaves free: the contents of the ROM (20_memory.md rule R53), the observed indicator
(10_state.md rule R20), and the state after reset (10_state.md rule R28). -/

namespace Sys2Proof.Machine

variable {s t : State}

/-! ## The contents of the ROM -/

/-- An unlisted byte reads as eight bits of its profile's word (20_memory.md rule R43). -/
theorem romDefault_getLsbD (p : ProfileIndex) {b j : Nat} (hb : b < 8) (hj : j < 8) :
    (romDefault (8 * p.toNat + b)).getLsbD j = (Config.profile p).getLsbD (8 * b + j) := by
  have hdiv : (8 * p.toNat + b) / 8 = p.toNat := by omega
  have hmod : (8 * p.toNat + b) % 8 = b := by omega
  simp [romDefault, hdiv, hmod, hj]

/-- Settles O33: tick `t` is a bit of a byte, and that byte, unlisted, is one of `Config.profile p`. -/
theorem unlistedRomIsParameter : Obligations.UnlistedRomIsParameter := by
  intro p t
  have hb : t.toNat / 8 < 8 := Nat.div_lt_of_lt_mul t.isLt
  have hj : t.toNat % 8 < 8 := Nat.mod_lt _ (by decide)
  rw [romByteViewOrder, Memory.read_nil, romDefault_getLsbD p hb hj, Nat.div_add_mod]

/-! ## The observed indicator -/

theorem draws_of_evReset (h : exec .evReset s = .next t) : t.draws = s.draws + 1 := by
  obtain rfl := Host.Outcome.next.inj h
  rw [resetDrawn_eq, resetGiven_eq]

/-- Every transition draws, and a reset draws a second time. -/
theorem draws_lt_of_step (h : step s = .next t) : s.draws < t.draws := by
  cases transition_of_step h with
  | reset hd hm =>
    rw [draws_of_evReset ((step_of_operation hm).symm.trans h)]
    simp
  | dispatch => simp
  | _ => exact Nat.lt_succ_self s.draws

/-- Settles O46: the observation by the two kinds of `led`, the freshness by the counter of draws. -/
theorem observationsAreFresh : Obligations.ObservationsAreFresh := by
  refine ⟨fun s b hled => ?level, fun s hled => ?unspecified, fun _ _ => draws_lt_of_step⟩
  case level | unspecified => rw [State.ledOut, hled]

/-! ## The state after reset -/

theorem step_reset : step State.reset = exec .gotosleep (State.reset.enter []) :=
  step_of_traceCode (codes := []) rfl (State.irqPending_eq_false rfl rfl rfl) rfl rfl rfl

/-- Settles O38: the values are the ones that `State.reset` writes, and with nothing armed and no stimulus the sequencer
moves first. -/
theorem resetValues : Obligations.ResetValues :=
  ⟨rfl, rfl, rfl, rfl, rfl, rfl, rfl, rfl, rfl, rfl, rfl, rfl, rfl, rfl, step_reset⟩

end Sys2Proof.Machine
